-- ==== Sys2Proof/Word.lean ====
section
/-! DEFINITION. The word types of the Bredzal 410: bytes of a frame, readings of the millisecond
count (R1) and 29-bit identifiers (R193). Every other quantity of the spec is an integer or a name. -/

namespace Sys2Proof

/-- One byte of a frame. -/
abbrev Byte := BitVec 8

/-- A reading of the free-running millisecond count (R1). -/
abbrev Ms := BitVec 32

/-- A 29-bit identifier (R193). -/
abbrev Ident := BitVec 29

end Sys2Proof
end

