-- ==== Sys2Proof/Syntax.lean ====
section
/-! DEFINITION. The commands of the Bredzal 410: one constructor of `Instr` for each row of
spec/opcode_table.json, with the operands the row's rule gives it. -/

namespace Sys2Proof

/-- The two CAN FD ports: U to the sensor segment, D to the actuator segment. -/
inductive Port where
  | u
  | d
deriving DecidableEq, Repr

/-- The four filtered line inputs (section 4.1). -/
inductive Line where
  | odo
  | dir
  | dig
  | stop
deriving DecidableEq, Repr

/-- A beam code, 0 to 3: the index of a beam table entry (R20). -/
inductive BeamCode where
  | b0
  | b1
  | b2
  | b3
deriving DecidableEq, Repr

/-- The two data frame formats a port receives (R159). -/
inductive DataFormat where
  | fd
  | classic
deriving DecidableEq, Repr

/-- The identifier of a frame on the bus: 11 bits, or the 29 bits the part reads as fields. -/
inductive FrameId where
  | std (id : BitVec 11)
  | ext (id : Ident)
deriving DecidableEq, Repr

/-- A data frame, or a classic remote request frame with its data length code. -/
inductive FrameKind where
  | data (format : DataFormat)
  | remote (length : BitVec 4)
deriving DecidableEq, Repr

/-- A frame as it arrives at or leaves a port: identifier, format, and data with its length. -/
structure CanFrame where
  id : FrameId
  kind : FrameKind
  data : List Byte
deriving DecidableEq, Repr

/-- An arriving data frame of the class its command names: the other identifier fields (R193), the
format and the data bytes. -/
structure Arrival where
  prio : BitVec 3
  dest : BitVec 6
  src : BitVec 6
  tag : BitVec 6
  format : DataFormat
  data : List Byte
deriving DecidableEq, Repr

/-- A MGMT_REQ frame with a complete header. The request code is the command's own; `len` is the
header's body length and `rest` holds every byte after the two header bytes (R194). -/
structure Request where
  prio : BitVec 3
  src : BitVec 6
  tag : BitVec 6
  format : DataFormat
  len : Byte
  rest : List Byte
deriving DecidableEq, Repr

/-- The commands, in the order of spec/opcode_table.json. -/
inductive Instr where
  /-- POWER_ON (R96), with the value on ADDR0 to ADDR2 (R172). -/
  | powerOn (straps : BitVec 3)
  /-- STRIKE (R3): a frame of class STRIKE arriving on Port U. -/
  | strike (f : Arrival)
  /-- TILT (R12): a frame of class TILT arriving on Port U. -/
  | tilt (f : Arrival)
  /-- SYNC (R122): a frame of class SYNC arriving on Port D. -/
  | sync (f : Arrival)
  /-- MANUAL_VALVE (R167): a frame of class MANUAL_VALVE arriving on Port U. -/
  | manualValve (f : Arrival)
  /-- FORWARDED_FRAME (R164): a classified data frame that no block takes. -/
  | forwardedFrame (p : Port) (id : Ident) (format : DataFormat) (data : List Byte)
  /-- UNCLASSIFIED_FRAME (R159): an 11-bit identifier or a classic remote request frame. -/
  | unclassifiedFrame (p : Port) (f : CanFrame)
  /-- MGMT_REQ_SHORT_HEADER (R161): a MGMT_REQ to the part's node with no byte or one byte. -/
  | mgmtReqShortHeader (prio : BitVec 3) (src tag : BitVec 6) (format : DataFormat) (byte : Option Byte)
  /-- UNKNOWN_REQUEST (R175): a request whose code the part does not define. -/
  | unknownRequest (code : Byte) (r : Request)
  /-- IDENTIFY (R185), to the part's node or broadcast (R161). -/
  | identify (broadcast : Bool) (r : Request)
  /-- SNAPSHOT (R184). -/
  | snapshot (r : Request)
  /-- RESET (R186). -/
  | reset (r : Request)
  /-- CLEAR_RUN (R187). -/
  | clearRun (r : Request)
  /-- PARAM_READ (R176). -/
  | paramRead (r : Request)
  /-- PARAM_WRITE (R177). -/
  | paramWrite (r : Request)
  /-- LOAD_BEGIN (R179). -/
  | loadBegin (r : Request)
  /-- LOAD_ENTRY (R180). -/
  | loadEntry (r : Request)
  /-- LOAD_COMMIT (R181). -/
  | loadCommit (r : Request)
  /-- LOAD_CANCEL (R182). -/
  | loadCancel (r : Request)
  /-- READ_ENTRY (R183). -/
  | readEntry (r : Request)
  /-- OPEN_RUN (R78). -/
  | openRun (r : Request)
  /-- CLOSE_RUN (R79). -/
  | closeRun (r : Request)
  /-- BENCH (R80). -/
  | bench (r : Request)
  /-- SET_DEPTH (R81). -/
  | setDepth (r : Request)
  /-- SET_MODE with mode AUTO (R82). -/
  | setModeAuto (r : Request)
  /-- SET_MODE with mode MANUAL (R83). -/
  | setModeManual (r : Request)
  /-- RESUME (R87). -/
  | resume (r : Request)
  /-- CLEAR_TRIP (R92). -/
  | clearTrip (r : Request)
  /-- HANDOVER (R37). -/
  | handover (r : Request)
  /-- ADOPT (R38). -/
  | adopt (r : Request)
  /-- TEST_START (R133). -/
  | testStart (r : Request)
  /-- TEST_ABORT (R137). -/
  | testAbort (r : Request)
  /-- TEST_RESULT (R140). -/
  | testResult (r : Request)
  /-- TEST_APPLY (R141). -/
  | testApply (r : Request)
  /-- FWD_WRITE (R165). -/
  | fwdWrite (r : Request)
  /-- FWD_READ (R165). -/
  | fwdRead (r : Request)
  /-- TRACE_READ (R150). -/
  | traceRead (r : Request)
  /-- TRACE_MARK (R154). -/
  | traceMark (r : Request)
  /-- TRACE_UNMARK (R154). -/
  | traceUnmark (r : Request)
  /-- TRACE_REWIND (R155). -/
  | traceRewind (r : Request)
  /-- TRACE_GATE (R145). -/
  | traceGate (r : Request)
  /-- EVENT_READ (R188). -/
  | eventRead (r : Request)
  /-- MASK_WRITE (R188). -/
  | maskWrite (r : Request)
  /-- COUNTERS_READ (R190). -/
  | countersRead (r : Request)
  /-- COUNTERS_CLEAR (R190). -/
  | countersClear (r : Request)
  /-- PORT_U_FRAME_DEPARTURE (R171). -/
  | portUFrameDeparture
  /-- ARBITER_TAKES_FRAME (R128). -/
  | arbiterTakesFrame
  /-- LINE_LEVEL_CHANGE (R61): the line and its new level. -/
  | lineLevelChange (l : Line) (high : Bool)
  /-- ACCEPTED_ODO_EDGE (R69): the ODO filter time has passed. -/
  | acceptedOdoEdge
  /-- ACCEPTED_DIR_CHANGE (R64): the DIR filter time has passed. -/
  | acceptedDirChange
  /-- ACCEPTED_DIG_CHANGE (R65): the DIG filter time has passed. -/
  | acceptedDigChange
  /-- STOP_ACCEPTED_ACTIVE (R91): the STOP filter time of an ACTIVE candidate has passed. -/
  | stopAcceptedActive
  /-- STOP_RELEASE (R65): the STOP filter time of an INACTIVE candidate has passed. -/
  | stopRelease
  /-- STRIKE_TIMEOUT (R25) of the entry of one beam. -/
  | strikeTimeout (c : BeamCode)
  /-- REFERENCE_TIMEOUT (R26). -/
  | referenceTimeout
  /-- FADING_TIMEOUT (R28). -/
  | fadingTimeout
  /-- TILT_EXPIRY (R13). -/
  | tiltExpiry
  /-- OUTPUT_TICK (R121): an internal tick. -/
  | outputTick
  /-- SYNC_TIMEOUT (R122). -/
  | syncTimeout
  /-- HOLD_DISTANCE_EXPIRY (R72, R86). -/
  | holdDistanceExpiry
  /-- DWELL_CLEAR_MOMENT (R134). -/
  | dwellClearMoment
  /-- STEP_TIMER_EXPIRY (R135). -/
  | stepTimerExpiry
  /-- NO_BEAM_TIMEOUT (R136). -/
  | noBeamTimeout
deriving DecidableEq, Repr

end Sys2Proof
end

