-- ==== Sys2Proof/Machine/Operands.lean ====
section
/-! DEFINITION. How numbers, identifiers and frame data are read and written: the two roundings (R2),
byte order (R194), the identifier's fields and class codes (R193), the request codes (R198). -/

namespace Sys2Proof.Machine

/-! ## Rounding and ranges -/

/-- `n / d` for `d > 0`, rounded half away from zero (R2). -/
def roundDiv (n : Int) (d : Nat) : Int :=
  if 0 ≤ n then (2 * n + d) / (2 * d) else -((2 * (-n) + d) / (2 * d))

/-- The nearer limit of a range for a value beyond it, else the value. -/
def clampInt (lo hi v : Int) : Int := if v < lo then lo else if hi < v then hi else v

/-- The greatest chainage, 5,000,000 mm (section "Units", R66). -/
def chainageMax : Nat := 5000000

/-- The age of a reading of the millisecond count: a difference modulo 2^32 (R1). -/
def age (now since : Ms) : Nat := (now - since).toNat

/-- Whether the moment `due`, set at the moment `since`, has come by `now` (both ages modulo 2^32). -/
def reached (since due now : Ms) : Bool := age due since ≤ age now since

/-- A number of milliseconds after a reading of the count. -/
def later (m : Ms) (n : Nat) : Ms := m + BitVec.ofNat 32 n

/-! ## Bytes (R194) -/

def byte (n : Nat) : Byte := BitVec.ofNat 8 n

/-- Two bytes, most significant first. -/
def bytes2 (n : Nat) : List Byte := [byte (n / 256), byte n]

/-- Four bytes, most significant first. -/
def bytes4 (n : Nat) : List Byte := [byte (n / 16777216), byte (n / 65536), byte (n / 256), byte n]

/-- Two bytes of a signed number in two's complement, most significant first. -/
def signed2 (z : Int) : List Byte := bytes2 (BitVec.ofInt 16 z).toNat

/-- Four bytes of a signed number in two's complement, most significant first. -/
def signed4 (z : Int) : List Byte := bytes4 (BitVec.ofInt 32 z).toNat

def flagByte (b : Bool) : Byte := if b then 1 else 0

/-- A presence byte: bit `n` is set when optional field `n` is present (R195). -/
def presence (fields : List Bool) : Byte :=
  byte (fields.foldr (fun b n => 2 * n + (if b then 1 else 0)) 0)

def word2 (a b : Byte) : Nat := a.toNat * 256 + b.toNat

def word4 (a b c d : Byte) : Nat := word2 a b * 65536 + word2 c d

def int2 (a b : Byte) : Int := (BitVec.ofNat 16 (word2 a b)).toInt

def int4 (a b c d : Byte) : Int := (BitVec.ofNat 32 (word4 a b c d)).toInt

/-- Whether a byte has bit `n` set. -/
def bitOf (b : Byte) (n : Nat) : Bool := b.getLsbD n

/-- The smallest CAN FD data length that holds `n` bytes (R194). -/
def fdLength (n : Nat) : Nat :=
  if n ≤ 8 then n else if n ≤ 12 then 12 else if n ≤ 16 then 16 else if n ≤ 20 then 20
  else if n ≤ 24 then 24 else if n ≤ 32 then 32 else if n ≤ 48 then 48 else 64

/-- The bytes past the layout are sent as 0 (R194). -/
def padded (l : List Byte) : List Byte := l ++ List.replicate (fdLength l.length - l.length) 0

/-! ## Identifiers (R193) -/

def identOf (prio : BitVec 3) (cls : Byte) (dest src tag : BitVec 6) : Ident :=
  prio ++ cls ++ dest ++ src ++ tag

def classOf (i : Ident) : Byte := i.extractLsb' 18 8

def destOf (i : Ident) : BitVec 6 := i.extractLsb' 12 6

def clsStrike : Byte := 0x21
def clsTilt : Byte := 0x22
def clsManualValve : Byte := 0x30
def clsValveCmd : Byte := 0x31
def clsTravelCmd : Byte := 0x32
def clsSync : Byte := 0x33
def clsMgmtReq : Byte := 0x40
def clsMgmtReply : Byte := 0x41
def clsNotice : Byte := 0x42
def clsTraceData : Byte := 0x43

/-- The broadcast node. -/
def broadcastNode : BitVec 6 := 63

/-- An arriving frame of a class as it stood on the bus. -/
def frameOf (cls : Byte) (f : Arrival) : CanFrame :=
  ⟨.ext (identOf f.prio cls f.dest f.src f.tag), .data f.format, f.data⟩

/-- A frame the part originates: its node as source, CAN FD format, padded data (R172, R194). -/
def ownFrame (node : BitVec 6) (prio : BitVec 3) (cls : Byte) (dest tag : BitVec 6)
    (layout : List Byte) : CanFrame :=
  ⟨.ext (identOf prio cls dest node tag), .data .fd, padded layout⟩

/-! ## Requests (R194, R198) -/

def codeIdentify : Byte := 0x01
def codeSnapshot : Byte := 0x02
def codeReset : Byte := 0x03
def codeClearRun : Byte := 0x04
def codeParamRead : Byte := 0x10
def codeParamWrite : Byte := 0x11
def codeLoadBegin : Byte := 0x20
def codeLoadEntry : Byte := 0x21
def codeLoadCommit : Byte := 0x22
def codeLoadCancel : Byte := 0x23
def codeReadEntry : Byte := 0x24
def codeOpenRun : Byte := 0x30
def codeCloseRun : Byte := 0x31
def codeBench : Byte := 0x32
def codeSetDepth : Byte := 0x33
def codeSetMode : Byte := 0x34
def codeResume : Byte := 0x35
def codeClearTrip : Byte := 0x36
def codeHandover : Byte := 0x38
def codeAdopt : Byte := 0x39
def codeTestStart : Byte := 0x40
def codeTestAbort : Byte := 0x41
def codeTestResult : Byte := 0x42
def codeTestApply : Byte := 0x43
def codeFwdWrite : Byte := 0x50
def codeFwdRead : Byte := 0x51
def codeTraceRead : Byte := 0x60
def codeTraceMark : Byte := 0x61
def codeTraceUnmark : Byte := 0x62
def codeTraceRewind : Byte := 0x63
def codeTraceGate : Byte := 0x64
def codeEventRead : Byte := 0x70
def codeMaskWrite : Byte := 0x71
def codeCountersRead : Byte := 0x72
def codeCountersClear : Byte := 0x73

/-- The request codes the part defines (R198). -/
def definedCodes : List Byte :=
  [codeIdentify, codeSnapshot, codeReset, codeClearRun, codeParamRead, codeParamWrite,
   codeLoadBegin, codeLoadEntry, codeLoadCommit, codeLoadCancel, codeReadEntry,
   codeOpenRun, codeCloseRun, codeBench, codeSetDepth, codeSetMode, codeResume, codeClearTrip,
   codeHandover, codeAdopt, codeTestStart, codeTestAbort, codeTestResult, codeTestApply,
   codeFwdWrite, codeFwdRead, codeTraceRead, codeTraceMark, codeTraceUnmark, codeTraceRewind,
   codeTraceGate, codeEventRead, codeMaskWrite, codeCountersRead, codeCountersClear]

/-- The MGMT_REQ frame of a request, addressed to `dest` (R193, R194). -/
def requestFrame (dest : BitVec 6) (code : Byte) (r : Request) : CanFrame :=
  ⟨.ext (identOf r.prio clsMgmtReq dest r.src r.tag), .data r.format, code :: r.len :: r.rest⟩

/-- The body of a request of body length `n`, or none where the length is wrong: the declared length
differs from `n`, or fewer than `n` bytes follow the header. Bytes past it are not read (R194). -/
def bodyOf (n : Nat) (r : Request) : Option (List Byte) :=
  if r.len.toNat = n ∧ n ≤ r.rest.length then some (r.rest.take n) else none

/-- The beam code a byte names, if it is at most 3. -/
def beamOfByte (b : Byte) : Option BeamCode :=
  match b.toNat with
  | 0 => some .b0
  | 1 => some .b1
  | 2 => some .b2
  | 3 => some .b3
  | _ => none

def beamNat : BeamCode → Nat
  | .b0 => 0
  | .b1 => 1
  | .b2 => 2
  | .b3 => 3

def beamByte (c : BeamCode) : Byte := byte (beamNat c)

/-- All beam codes in increasing order. -/
def allBeams : List BeamCode := [.b0, .b1, .b2, .b3]

/-! ## Which block takes an arriving frame (R160, R161) -/

/-- Whether a classified data frame is taken by a block of the part of node `node`, or is dropped by
it for its form: STRIKE, TILT, MANUAL_VALVE and MGMT_REQ to the node on Port U, broadcast IDENTIFY on
Port U, SYNC on Port D. -/
def takenByBlock (node : BitVec 6) (p : Port) (id : Ident) (data : List Byte) : Bool :=
  let cls := classOf id
  match p with
  | .u => cls = clsStrike || cls = clsTilt || cls = clsManualValve
      || (cls = clsMgmtReq && (destOf id = node
          || (destOf id = broadcastNode && 2 ≤ data.length && data.head? = some codeIdentify)))
  | .d => cls = clsSync

/-- Whether a frame is one the part does not classify: an 11-bit identifier or a classic remote
request frame (R159). -/
def unclassified (f : CanFrame) : Bool :=
  match f.id, f.kind with
  | .std _, _ => true
  | .ext _, .remote _ => true
  | .ext _, .data _ => false

end Sys2Proof.Machine
end

