-- ==== Sys2Proof/WellFormed.lean ====
section
/-! DEFINITION. Which terms of `Instr` are commands that can reach a part of a given node number. A
term that fails here stands for nothing outside; what `exec` answers on it says nothing (log 9). -/

namespace Sys2Proof

open Machine

/-- The data lengths a port receives: 0 to 64 bytes in CAN FD format, 0 to 8 in classic (R159). -/
def DataFormat.holds (f : DataFormat) (n : Nat) : Bool :=
  match f with
  | .fd => n ≤ 64
  | .classic => n ≤ 8

def Arrival.wellFormed (f : Arrival) : Bool := f.format.holds f.data.length

def Request.wellFormed (r : Request) : Bool := r.format.holds (2 + r.rest.length)

/-- A request whose code is not that of its command's row cannot be written, except for
UNKNOWN_REQUEST; the two SET_MODE rows share one code and are told apart by the mode byte: the row
SET_MODE_MANUAL has mode 0, the row SET_MODE_AUTO everything else (R82). -/
def modeIsManual (r : Request) : Bool := r.len = 1 && r.rest.head? = some 0

/-- The check of one command against the node number of the part. -/
def Instr.wellFormed (node : BitVec 6) : Instr → Bool
  | .powerOn _ => true
  | .strike f | .tilt f | .sync f | .manualValve f => f.wellFormed
  | .forwardedFrame p id format data => format.holds data.length && !takenByBlock node p id data
  | .unclassifiedFrame _ f =>
    unclassified f &&
      (match f.kind with
       | .data format => format.holds f.data.length
       | .remote _ => f.data = [])
  | .mgmtReqShortHeader _ _ _ _ _ => true
  | .unknownRequest code r => r.wellFormed && !definedCodes.contains code
  | .setModeAuto r => r.wellFormed && !modeIsManual r
  | .setModeManual r => r.wellFormed && modeIsManual r
  | .identify _ r | .snapshot r | .reset r | .clearRun r | .paramRead r | .paramWrite r
  | .loadBegin r | .loadEntry r | .loadCommit r | .loadCancel r | .readEntry r | .openRun r
  | .closeRun r | .bench r | .setDepth r | .resume r | .clearTrip r | .handover r | .adopt r
  | .testStart r | .testAbort r | .testResult r | .testApply r | .fwdWrite r | .fwdRead r
  | .traceRead r | .traceMark r | .traceUnmark r | .traceRewind r | .traceGate r | .eventRead r
  | .maskWrite r | .countersRead r | .countersClear r => r.wellFormed
  | .portUFrameDeparture | .arbiterTakesFrame | .lineLevelChange _ _ | .acceptedOdoEdge
  | .acceptedDirChange | .acceptedDigChange | .stopAcceptedActive | .stopRelease
  | .strikeTimeout _ | .referenceTimeout | .fadingTimeout | .tiltExpiry | .outputTick
  | .syncTimeout | .holdDistanceExpiry | .dwellClearMoment | .stepTimerExpiry
  | .noBeamTimeout => true

end Sys2Proof
end

