-- ==== Sys2Proof/Decode.lean ====
section
/-! DEFINITION. `decodeTableWord`, which the host asks for: no row of spec/opcode_table.json has bits,
so no word spells a command. And `decodeFrame`, the part's own classification (R159 to R161, R175): the
command that a frame arriving at a port is. -/

namespace Sys2Proof

open Machine

/-- The command a word spells by the table's bits: the table gives no row any bits. -/
def decodeTableWord (_nbits _w : Nat) : Option Instr := none

/-- The command of a request with a complete header, by its code (R175, R198). -/
def decodeRequest (broadcast : Bool) (code : Byte) (r : Request) : Instr :=
  if code = codeIdentify then .identify broadcast r
  else if code = codeSnapshot then .snapshot r
  else if code = codeReset then .reset r
  else if code = codeClearRun then .clearRun r
  else if code = codeParamRead then .paramRead r
  else if code = codeParamWrite then .paramWrite r
  else if code = codeLoadBegin then .loadBegin r
  else if code = codeLoadEntry then .loadEntry r
  else if code = codeLoadCommit then .loadCommit r
  else if code = codeLoadCancel then .loadCancel r
  else if code = codeReadEntry then .readEntry r
  else if code = codeOpenRun then .openRun r
  else if code = codeCloseRun then .closeRun r
  else if code = codeBench then .bench r
  else if code = codeSetDepth then .setDepth r
  else if code = codeSetMode then (if modeIsManual r then .setModeManual r else .setModeAuto r)
  else if code = codeResume then .resume r
  else if code = codeClearTrip then .clearTrip r
  else if code = codeHandover then .handover r
  else if code = codeAdopt then .adopt r
  else if code = codeTestStart then .testStart r
  else if code = codeTestAbort then .testAbort r
  else if code = codeTestResult then .testResult r
  else if code = codeTestApply then .testApply r
  else if code = codeFwdWrite then .fwdWrite r
  else if code = codeFwdRead then .fwdRead r
  else if code = codeTraceRead then .traceRead r
  else if code = codeTraceMark then .traceMark r
  else if code = codeTraceUnmark then .traceUnmark r
  else if code = codeTraceRewind then .traceRewind r
  else if code = codeTraceGate then .traceGate r
  else if code = codeEventRead then .eventRead r
  else if code = codeMaskWrite then .maskWrite r
  else if code = codeCountersRead then .countersRead r
  else if code = codeCountersClear then .countersClear r
  else .unknownRequest code r

/-- The command of a classified data frame (R160, R161). -/
def decodeClassified (node : BitVec 6) (p : Port) (id : Ident) (format : DataFormat)
    (data : List Byte) : Instr :=
  let prio : BitVec 3 := id.extractLsb' 26 3
  let src : BitVec 6 := id.extractLsb' 6 6
  let tag : BitVec 6 := id.extractLsb' 0 6
  let f : Arrival := ⟨prio, destOf id, src, tag, format, data⟩
  let passed : Instr := .forwardedFrame p id format data
  match p with
  | .d => if classOf id = clsSync then .sync f else passed
  | .u =>
    if classOf id = clsStrike then .strike f
    else if classOf id = clsTilt then .tilt f
    else if classOf id = clsManualValve then .manualValve f
    else if classOf id = clsMgmtReq then
      match data with
      | code :: len :: rest =>
        if destOf id = node then decodeRequest false code ⟨prio, src, tag, format, len, rest⟩
        else if destOf id = broadcastNode ∧ code = codeIdentify then
          .identify true ⟨prio, src, tag, format, len, rest⟩
        else passed
      | short =>
        if destOf id = node then .mgmtReqShortHeader prio src tag format short.head? else passed
    else passed

/-- The command that a frame arriving at a port of the part of node `node` is (R159 to R161). -/
def decodeFrame (node : BitVec 6) (p : Port) (f : CanFrame) : Instr :=
  match f.id, f.kind with
  | .ext id, .data format => decodeClassified node p id format f.data
  | _, _ => .unclassifiedFrame p f

end Sys2Proof
end

