-- ==== Sys2Proof/Config.lean ====
section
/-! DEFINITION. The one value the spec leaves free: in which order events that come due at the same
moment are taken ("either may be taken first": R29, R94, R110, R122, R129, R139, R158, R174). -/

namespace Sys2Proof

/-- The order in which events due at one moment are taken, as a number that selects a permutation
(`Machine.arrange`), for each choice the part makes. It has no body: nothing can be proved of it, so
a claim holds for every order. Log 2. -/
opaque Config.dueOrder : Nat → Nat

end Sys2Proof
end

