-- ==== Sys2Proof/Machine/Blocks.lean ====
section
/-! DEFINITION. What each of the part's blocks holds, as plain data: the types of State's fields. -/

namespace Sys2Proof.Machine

/-! ## Clock -/

/-- The millisecond count (R1) and the microseconds within the present millisecond (R61). -/
structure Clock where
  ms : Ms
  us : Nat
deriving DecidableEq, Repr

/-! ## Parameters (R176, R199) -/

/-- P_ODO_EDGE -/
inductive OdoEdgeSel where
  | rising
  | falling
  | both
deriving DecidableEq, Repr

/-- P_DIR_POL -/
inductive DirPolarity where
  | normal
  | inverted
deriving DecidableEq, Repr

/-- P_TICK_SRC -/
inductive TickSource where
  | internalTicks
  | syncFrames
deriving DecidableEq, Repr

/-- P_MODE_DEPTH, P_MODE_TRAVEL -/
inductive UpdateMode where
  | immediate
  | synchronous
deriving DecidableEq, Repr

/-- P_TRACE_GATE -/
inductive GateSource where
  | line
  | software
deriving DecidableEq, Repr

/-- P_STREAM -/
inductive StreamMode where
  | off
  | burst
  | intermittent
deriving DecidableEq, Repr

/-- P_FWD_DEFAULT and the action of a forwarding table entry. -/
inductive Action where
  | pass
  | block
deriving DecidableEq, Repr

/-- The parameter set: one value for each parameter of R199, in the order of the identifiers. -/
structure Params where
  /-- P_PITCH, 0.1 mm -/
  pitch : Nat
  /-- P_MAST, 0.1 mm -/
  mast : Nat
  /-- P_JUMP, 0.1 mm -/
  jump : Nat
  /-- P_JUMPN, strikes -/
  jumpn : Nat
  /-- P_TILT_TMO, ms -/
  tiltTmo : Nat
  /-- P_STRIKE_TMO, ms -/
  strikeTmo : Nat
  /-- P_ACQ, strikes -/
  acq : Nat
  /-- P_PAIR, ms -/
  pair : Nat
  /-- P_OFS_N, samples -/
  ofsN : Nat
  /-- P_OFS_TOL, 0.1 mm -/
  ofsTol : Nat
  /-- P_AUTO_HANDOVER -/
  autoHandover : Nat
  /-- P_HOLD_DIST, mm -/
  holdDist : Nat
  /-- P_ODO_SCALE, µm per edge -/
  odoScale : Nat
  /-- P_ODO_EDGE -/
  odoEdge : OdoEdgeSel
  /-- P_DIR_POL -/
  dirPol : DirPolarity
  /-- P_ODO_FILT, µs -/
  odoFilt : Nat
  /-- P_DIR_FILT, ms -/
  dirFilt : Nat
  /-- P_DIG_FILT, ms -/
  digFilt : Nat
  /-- P_STOP_FILT, ms -/
  stopFilt : Nat
  /-- P_WINDOW, 0.1 mm -/
  window : Nat
  /-- P_GAIN, 0.01 % per 0.1 mm -/
  gain : Nat
  /-- P_UMIN, 0.01 % -/
  umin : Nat
  /-- P_UMAX, 0.01 % -/
  umax : Nat
  /-- P_SLEW, 0.01 % per computation -/
  slew : Nat
  /-- P_DWELL, ms -/
  dwell : Nat
  /-- P_E_SLOW, 0.1 mm -/
  eSlow : Nat
  /-- P_K_TRAVEL, 0.01 % per 0.1 mm -/
  kTravel : Nat
  /-- P_L_MIN, 0.01 % -/
  lMin : Nat
  /-- P_L_HOLD, 0.01 % -/
  lHold : Nat
  /-- P_TICK, ms -/
  tick : Nat
  /-- P_TICK_SRC -/
  tickSrc : TickSource
  /-- P_SYNC_TMO, ms -/
  syncTmo : Nat
  /-- P_MODE_DEPTH -/
  modeDepth : UpdateMode
  /-- P_MODE_TRAVEL -/
  modeTravel : UpdateMode
  /-- P_DECAY, 0.01 % -/
  decay : Nat
  /-- P_TRACE_STEP, mm -/
  traceStep : Nat
  /-- P_TRACE_HIGH, records -/
  traceHigh : Nat
  /-- P_TRACE_GATE -/
  traceGate : GateSource
  /-- P_STREAM -/
  stream : StreamMode
  /-- P_STREAM_K, frames per tick -/
  streamK : Nat
  /-- P_REJECT_THRESH, rejects -/
  rejectThresh : Nat
  /-- P_FWD_DEFAULT -/
  fwdDefault : Action
  /-- P_VT_START, mA -/
  vtStart : Nat
  /-- P_VT_STEP, mA -/
  vtStep : Nat
  /-- P_VT_PERIOD, ms -/
  vtPeriod : Nat
  /-- P_VT_MOVE, 0.1 mm -/
  vtMove : Nat
  /-- P_VT_MAX, mA -/
  vtMax : Nat
  /-- P_VT_NOSTRIKE, ms -/
  vtNostrike : Nat
deriving DecidableEq, Repr

/-! ## Lines (R61) -/

/-- The filter of one line: the level at the pin, the accepted state, and the moment the candidate
began when a change is being timed. The candidate's state is the opposite of the accepted state
(R61), so it is not held beside it (log 18). -/
structure LineFilter where
  high : Bool
  active : Bool
  since : Option Clock
deriving DecidableEq, Repr

structure Lines where
  odo : LineFilter
  dir : LineFilter
  dig : LineFilter
  stop : LineFilter
deriving DecidableEq, Repr

/-! ## Chainage unit (R66) -/

/-- Chainage s, remainder r, high-water mark h, boundary index n and HOLD distance d_H. -/
structure Chain where
  s : Nat
  r : Nat
  h : Nat
  n : Nat
  dH : Nat
deriving DecidableEq, Repr

/-! ## Strike interpreter and beam table (R5, R6, R20) -/

inductive BeamState where
  | unseen
  | acquiring
  | tracking
  | established
  | reference
  | fading
  | lost
deriving DecidableEq, Repr

/-- The last accepted beam height and the arrival time of the strike that set it (R6). -/
structure Height where
  b : Int
  time : Ms
deriving DecidableEq, Repr

/-- One entry of the beam table, with the sequence record and jump filter of its beam. -/
structure Beam where
  seq : Option Byte
  accepted : Option Height
  rejects : Nat
  lastStrike : Option Ms
  state : BeamState
  good : Nat
  offset : Option Int
  window : List Int
  fade : Option Ms
deriving DecidableEq, Repr

/-- The four entries. -/
structure Beams where
  e0 : Beam
  e1 : Beam
  e2 : Beam
  e3 : Beam
deriving DecidableEq, Repr

/-- What the strike interpreter hands the beam table for a well-formed strike (R11). -/
inductive StrikeResult where
  | accepted (b : Int)
  | rebased (b : Int)
  | jumpRejected
  | edgeHigh
  | edgeLow
  | multi
deriving DecidableEq, Repr

/-- The tilt record (R12, R13). -/
structure Tilt where
  theta : Int
  arrival : Option Ms
  fresh : Bool
deriving DecidableEq, Repr

/-! ## Profile store (R41, R42, R179) -/

/-- A profile entry: start chainage, design grade, optional drop step, optional speed cap. -/
structure ProfileEntry where
  start : Nat
  grade : Int
  step : Option Int
  cap : Option Nat
deriving DecidableEq, Repr

/-- A profile bank: entries in index order, basis grade, base offsets in 10⁻⁵ mm. -/
structure Bank where
  entries : List ProfileEntry
  basis : Int
  offsets : List Int
deriving DecidableEq, Repr

inductive TableKind where
  | profile
  | tilt
  | valveRaise
  | valveLower
deriving DecidableEq, Repr

/-- An open load session (R179). -/
structure Session where
  kind : TableKind
  pointer : Nat
deriving DecidableEq, Repr

/-- A point of a valve map: demand and coil current (R124). -/
structure MapPoint where
  d : Nat
  i : Nat
deriving DecidableEq, Repr

/-- An entry of the staging area that the tilt table and the valve maps share (R179). -/
inductive StageEntry where
  | tilt (c : Int)
  | point (p : MapPoint)
deriving DecidableEq, Repr

structure ProfileStore where
  active : Bank
  staging : Bank
  takeover : Option Nat
  session : Option Session
  shared : List StageEntry
  tiltTable : Option (List Int)
  raiseMap : Option (List MapPoint)
  lowerMap : Option (List MapPoint)
deriving DecidableEq, Repr

/-! ## Run and control unit (R75, R77, R103) -/

structure RunRecord where
  number : Nat
  isOpen : Bool
  grade : Int
  dSet : Int
  benched : Bool
  start : Nat
deriving DecidableEq, Repr

inductive CtlState where
  | standby
  | manual
  | auto
  | hold
  | suspended
  | test
  | tripped
deriving DecidableEq, Repr

/-- The control state, the prior-state record, the demand memory (positive for RAISE) and the
off-column indication. -/
structure Control where
  state : CtlState
  prior : Option CtlState
  memory : Int
  offColumn : Bool
deriving DecidableEq, Repr

/-! ## Output channels (R111) -/

inductive Dir where
  | raise
  | lower
deriving DecidableEq, Repr

inductive DepthValue where
  | neutral
  | demand (d : Dir) (magnitude : Nat)
  | test (d : Dir) (current : Nat)
deriving DecidableEq, Repr

/-- The last emitted DEPTH frame; direction none is NEUTRAL. -/
structure DepthFrame where
  dir : Option Dir
  magnitude : Nat
  current : Nat
  seq : Byte
deriving DecidableEq, Repr

structure DepthChannel where
  waiting : Option DepthValue
  fresh : Bool
  held : DepthValue
  emitted : Bool
  last : Option DepthFrame
  lastRaise : Option Ms
  lastLower : Option Ms
  seq : Byte
deriving DecidableEq, Repr

inductive TravelReason where
  | none
  | error
  | segmentCap
  | hold
  | suspended
  | tripped
  | test
deriving DecidableEq, Repr

/-- A TRAVEL value, and the last emitted TRAVEL frame. -/
structure TravelValue where
  limit : Nat
  reason : TravelReason
deriving DecidableEq, Repr

structure TravelChannel where
  waiting : Option TravelValue
  fresh : Bool
  held : TravelValue
  emitted : Bool
  last : Option TravelValue
deriving DecidableEq, Repr

inductive TickMode where
  | internalTicks
  | syncFrames
  | fallback
deriving DecidableEq, Repr

/-- The output tick generator (R121). `nextTick` is read in INTERNAL and FALLBACK mode, `syncSince` in
SYNC mode. `owed` is the model's own: an internal tick of FALLBACK that fell together with the SYNC frame that ended
it is still to be made (R122, log 38). -/
structure TickGen where
  mode : TickMode
  lastTick : Ms
  nextTick : Ms
  syncSince : Ms
  owed : Bool
deriving DecidableEq, Repr

/-! ## Valve deadband test (R131, R132) -/

/-- What a running test holds. -/
structure TestRun where
  dir : Dir
  beam : BeamCode
  b0 : Int
  start : Ms
  lastUsable : Ms
deriving DecidableEq, Repr

/-- The test state; in STEPPING with the step current, the moment the step expires, and the moment
that timer was set. -/
inductive TestPhase where
  | idle
  | waiting (t : TestRun)
  | stepping (t : TestRun) (current : Nat) (timer : Ms) (timerSet : Ms)
deriving DecidableEq, Repr

inductive TestOutcome where
  | none
  | found
  | notFound
  | wrongDirection
  | travel
  | noBeam
  | offColumn
  | request
  | stop
  | override
deriving DecidableEq, Repr

structure TestRecord where
  outcome : TestOutcome
  dir : Option Dir
  beam : Option BeamCode
  current : Option Nat
  movement : Option Int
  duration : Option Nat
deriving DecidableEq, Repr

structure ValveTest where
  phase : TestPhase
  result : TestRecord
deriving DecidableEq, Repr

/-! ## As-cut trace (R142, R147) -/

structure TraceFlags where
  recut : Bool
  offColumn : Bool
  hold : Bool
  manual : Bool
  tiltStale : Bool
  travelLimited : Bool
deriving DecidableEq, Repr

/-- A trace record; measured depth and reference code are present together. -/
structure TraceRecord where
  seq : BitVec 32
  run : Nat
  boundary : Nat
  hDes : Int
  measured : Option (Int × BeamCode)
  state : CtlState
  flags : TraceFlags
deriving DecidableEq, Repr

/-- The trace. `kept` holds the records from the anchor up to the tail, oldest first: the record at
position p stands at index p − anchor. Slots outside are never read (R147), so they are not held
(log 17). -/
structure Trace where
  tail : BitVec 32
  read : BitVec 32
  mark : Option (BitVec 32)
  seqNo : BitVec 32
  kept : List TraceRecord
  gateOpen : Bool
deriving DecidableEq, Repr

/-! ## Frame path (R163, R169, R170, R127) -/

inductive Ingress where
  | u
  | d
  | either
deriving DecidableEq, Repr

structure FwdEntry where
  inUse : Bool
  ingress : Ingress
  value : Ident
  mask : Ident
  action : Action
deriving DecidableEq, Repr

/-- A frame of the Port U transmit queue, with the mark of the reset reply (R186). -/
structure QueuedU where
  frame : CanFrame
  resetReply : Bool
deriving DecidableEq, Repr

/-- Port U: its transmit queue, oldest first, and the frame it took last (the model's own: log 6). -/
structure PortU where
  queue : List QueuedU
  sent : Option CanFrame
deriving DecidableEq, Repr

/-- Port D: its forward queue, oldest first, the two command slots, and the frame it took last (the
model's own: log 6). -/
structure PortD where
  queue : List CanFrame
  depthSlot : Option CanFrame
  travelSlot : Option CanFrame
  sent : Option CanFrame
deriving DecidableEq, Repr

/-! ## Event and counter unit (R188, R189, R190) -/

/-- The 28 events, in the order of their numbers. -/
inductive Event where
  | powerOn
  | resetDone
  | beamAcquired
  | beamLost
  | referenceFading
  | handoverDone
  | offsetEstablished
  | offsetUnstable
  | holdEntered
  | suspended
  | override
  | tripped
  | offColumn
  | jumpRebased
  | rejectThreshold
  | strikeGap
  | tiltStale
  | tiltRange
  | outputDecayed
  | syncLost
  | profileSwapped
  | targetSaturated
  | chainageLimit
  | traceHigh
  | traceOverrun
  | testDone
  | forwardDrop
  | noticeDrop
deriving DecidableEq, Repr

/-- The latches and the mask; bit n stands for event n, and a set mask bit masks its event. -/
structure Events where
  latches : BitVec 28
  mask : BitVec 28
deriving DecidableEq, Repr

/-- The eleven counters, in the order of R190. -/
structure Counters where
  acceptedStrikes : Nat
  jumpRejects : Nat
  multiRejects : Nat
  strikeGaps : Nat
  malformed : Nat
  fwdDropUD : Nat
  fwdDropDU : Nat
  staleTicks : Nat
  traceDropped : Nat
  noticeDropped : Nat
  replyDropped : Nat
deriving DecidableEq, Repr

/-- The names of the counters. -/
inductive Counter where
  | acceptedStrikes
  | jumpRejects
  | multiRejects
  | strikeGaps
  | malformed
  | fwdDropUD
  | fwdDropDU
  | staleTicks
  | traceDropped
  | noticeDropped
  | replyDropped
deriving DecidableEq, Repr

end Sys2Proof.Machine
end

