-- ==== Sys2Proof/Machine/ResetValues.lean ====
section
/-! DEFINITION. What each block holds after power-on and after master reset, as its chapter gives it. -/

namespace Sys2Proof.Machine

/-- The defaults of R199. -/
def defaultParams : Params where
  pitch := 20
  mast := 20000
  jump := 300
  jumpn := 3
  tiltTmo := 500
  strikeTmo := 400
  acq := 4
  pair := 150
  ofsN := 8
  ofsTol := 20
  autoHandover := 1
  holdDist := 2000
  odoScale := 10000
  odoEdge := .rising
  dirPol := .normal
  odoFilt := 200
  dirFilt := 20
  digFilt := 20
  stopFilt := 20
  window := 15
  gain := 40
  umin := 800
  umax := 6000
  slew := 1000
  dwell := 120
  eSlow := 50
  kTravel := 20
  lMin := 3000
  lHold := 2000
  tick := 50
  tickSrc := .internalTicks
  syncTmo := 200
  modeDepth := .synchronous
  modeTravel := .synchronous
  decay := 5000
  traceStep := 100
  traceHigh := 3584
  traceGate := .line
  stream := .off
  streamK := 2
  rejectThresh := 128
  fwdDefault := .pass
  vtStart := 100
  vtStep := 5
  vtPeriod := 250
  vtMove := 30
  vtMax := 1200
  vtNostrike := 1000

/-- The accepted state is INACTIVE and no candidate is held (R62), whatever level the pin shows. -/
def resetFilter (high : Bool) : LineFilter := ⟨high, false, none⟩

/-- The pins in State.reset: every level is the one that stands for INACTIVE (log 7). -/
def quietLines : Lines := ⟨resetFilter false, resetFilter false, resetFilter false, resetFilter true⟩

/-- R66 -/
def resetChain : Chain := ⟨0, 0, 0, 0, 0⟩

/-- R5, R6, R22 -/
def resetBeam : Beam := ⟨none, none, 0, none, .unseen, 0, none, [], none⟩

def resetBeams : Beams := ⟨resetBeam, resetBeam, resetBeam, resetBeam⟩

/-- R14 -/
def resetTilt : Tilt := ⟨0, none, false⟩

/-- R42, R54 -/
def emptyBank : Bank := ⟨[], 0, []⟩

/-- R15, R42, R124, R179 -/
def resetStore : ProfileStore := ⟨emptyBank, emptyBank, none, none, [], none, none, none⟩

/-- R96 -/
def resetRun : RunRecord := ⟨0, false, 0, 0, false, 0⟩

/-- R96, R103 -/
def resetControl : Control := ⟨.standby, none, 0, false⟩

/-- R130 -/
def resetDepth : DepthChannel := ⟨none, false, .neutral, false, none, none, none, 0⟩

/-- R130 -/
def resetTravel : TravelChannel := ⟨none, false, ⟨10000, .none⟩, false, none⟩

/-- R121, R130: INTERNAL mode, the first tick P_TICK (50 ms by default) after the reset. The last tick
and the SYNC moment hold the moment of the reset (log 23). -/
def resetTick (now : Ms) : TickGen := ⟨.internalTicks, now, now + 50, now, false⟩

/-- R132 -/
def noRecord : TestRecord := ⟨.none, none, none, none, none, none⟩

/-- R131, R132 -/
def resetTest : ValveTest := ⟨.idle, noRecord⟩

/-- R157 -/
def resetTrace : Trace := ⟨0, 0, none, 0, [], false⟩

/-- R163 -/
def resetFwdEntry : FwdEntry := ⟨false, .either, 0, 0, .pass⟩

/-- R163: 24 entries. -/
def resetFwd : List FwdEntry := List.replicate 24 resetFwdEntry

/-- R188: every event masked, the latch of the given number alone set. -/
def resetEvents (n : Nat) : Events := ⟨1 <<< n, BitVec.allOnes 28⟩

/-- R190 -/
def resetCounters : Counters := ⟨0, 0, 0, 0, 0, 0, 0, 0, 0, 0, 0⟩

end Sys2Proof.Machine
end

