-- ==== Sys2Proof/Machine/State.lean ====
section
/-! DEFINITION. The state of the part, the reasons a step can stop, and the state after power-on. -/

namespace Sys2Proof.Machine

/-- Everything the spec gives the part, block by block, and the queue of commands. -/
structure State where
  now : Clock
  node : BitVec 6
  params : Params
  lines : Lines
  chain : Chain
  beams : Beams
  tilt : Tilt
  store : ProfileStore
  run : RunRecord
  ctl : Control
  depth : DepthChannel
  travel : TravelChannel
  tick : TickGen
  test : ValveTest
  trace : Trace
  fwd : List FwdEntry
  portU : PortU
  portD : PortD
  events : Events
  counters : Counters
  /-- The commands waiting, first in, first out. -/
  pending : List Instr
  /-- The model's own: how many free choices of an order have been made (log 2). -/
  choice : Nat
deriving DecidableEq, Repr

/-- No rule of the spec stops the part, so no command faults: there is no reason to name. -/
inductive Fault where
deriving DecidableEq, Repr

/-- The reasons a step is refused. -/
inductive Refusal where
  /-- A command with no meaning yet, raised by exec's arm alone. Safe. No arm of this model raises it. -/
  | notModelled (mnemonic : String)
deriving DecidableEq, Repr

/-- The machine after power-on with the straps at 0 and every line's level INACTIVE (log 7). Event 0 is
POWER_ON. -/
def State.reset : State where
  now := ⟨0, 0⟩
  node := 16
  params := defaultParams
  lines := quietLines
  chain := resetChain
  beams := resetBeams
  tilt := resetTilt
  store := resetStore
  run := resetRun
  ctl := resetControl
  depth := resetDepth
  travel := resetTravel
  tick := resetTick 0
  test := resetTest
  trace := resetTrace
  fwd := resetFwd
  portU := ⟨[], none⟩
  portD := ⟨[], none, none, none⟩
  events := resetEvents 0
  counters := resetCounters
  pending := []
  choice := 0

end Sys2Proof.Machine
end

