-- ==== Sys2Proof/Machine/Flags.lean ====
section
/-! DEFINITION. The event and counter unit: latching an event with its notice (R188, R189), adding to a
counter (R190), the reject threshold (R191). -/

namespace Sys2Proof.Machine

/-- The number of an event (R189). -/
def eventNo : Event → Nat
  | .powerOn => 0
  | .resetDone => 1
  | .beamAcquired => 2
  | .beamLost => 3
  | .referenceFading => 4
  | .handoverDone => 5
  | .offsetEstablished => 6
  | .offsetUnstable => 7
  | .holdEntered => 8
  | .suspended => 9
  | .override => 10
  | .tripped => 11
  | .offColumn => 12
  | .jumpRebased => 13
  | .rejectThreshold => 14
  | .strikeGap => 15
  | .tiltStale => 16
  | .tiltRange => 17
  | .outputDecayed => 18
  | .syncLost => 19
  | .profileSwapped => 20
  | .targetSaturated => 21
  | .chainageLimit => 22
  | .traceHigh => 23
  | .traceOverrun => 24
  | .testDone => 25
  | .forwardDrop => 26
  | .noticeDrop => 27

/-- Whether an event's latch is set. -/
def latched (e : Event) (s : State) : Bool := s.events.latches.getLsbD (eventNo e)

/-- Whether an event is masked. -/
def masked (e : Event) (s : State) : Bool := s.events.mask.getLsbD (eventNo e)

/-- The latch of an event set, the others as they are. -/
def setLatch (e : Event) (s : State) : State :=
  { s with events := { s.events with latches := s.events.latches ||| (1 <<< eventNo e) } }

def counterOf (k : Counters) : Counter → Nat
  | .acceptedStrikes => k.acceptedStrikes
  | .jumpRejects => k.jumpRejects
  | .multiRejects => k.multiRejects
  | .strikeGaps => k.strikeGaps
  | .malformed => k.malformed
  | .fwdDropUD => k.fwdDropUD
  | .fwdDropDU => k.fwdDropDU
  | .staleTicks => k.staleTicks
  | .traceDropped => k.traceDropped
  | .noticeDropped => k.noticeDropped
  | .replyDropped => k.replyDropped

def putCounter (k : Counters) (c : Counter) (v : Nat) : Counters :=
  match c with
  | .acceptedStrikes => { k with acceptedStrikes := v }
  | .jumpRejects => { k with jumpRejects := v }
  | .multiRejects => { k with multiRejects := v }
  | .strikeGaps => { k with strikeGaps := v }
  | .malformed => { k with malformed := v }
  | .fwdDropUD => { k with fwdDropUD := v }
  | .fwdDropDU => { k with fwdDropDU := v }
  | .staleTicks => { k with staleTicks := v }
  | .traceDropped => { k with traceDropped := v }
  | .noticeDropped => { k with noticeDropped := v }
  | .replyDropped => { k with replyDropped := v }

/-- Adds to a counter, which stops at 65,535 (R190). -/
def count (c : Counter) (n : Nat) (s : State) : State :=
  { s with counters := putCounter s.counters c (min 65535 (counterOf s.counters c + n)) }

/-- Whether the Port U transmit queue has room for one frame (R170). -/
def roomU (s : State) : Bool := s.portU.queue.length < 32

/-- A frame joins the end of the Port U transmit queue. -/
def pushU (q : QueuedU) (s : State) : State :=
  { s with portU := { s.portU with queue := s.portU.queue ++ [q] } }

/-- The NOTICE frame of an event with the beam code and chainage of its context (R189, R197). -/
def noticeFrame (e : Event) (beam : Option BeamCode) (chainage : Nat) (s : State) : CanFrame :=
  ownFrame s.node 4 clsNotice broadcastNode 0
    ([byte (eventNo e), presence [beam.isSome], (beam.map beamByte).getD 0]
      ++ bytes4 chainage ++ bytes4 s.now.ms.toNat)

/-- A notice that finds the queue full is dropped and counted and latches NOTICE_DROP; where that latch
passes from clear to set while unmasked, its own notice is dropped and counted in turn, and the
cascade goes no further (R189). -/
def dropNotice (s : State) : State :=
  let s := count .noticeDropped 1 s
  if latched .noticeDrop s then s
  else if masked .noticeDrop s then setLatch .noticeDrop s
  else count .noticeDropped 1 (setLatch .noticeDrop s)

/-- Latches an event (R188): a latch already set stays set and nothing else happens. A latch that passes
from clear to set while its event is unmasked queues one notice within the operation (R189). -/
def latch (e : Event) (beam : Option BeamCode) (chainage : Nat) (s : State) : State :=
  if latched e s then s
  else if masked e s then setLatch e s
  else if roomU s then pushU ⟨noticeFrame e beam chainage s, false⟩ (setLatch e s)
  else dropNotice (setLatch e s)

/-- Latches an event whose context is the chainage at the latching. -/
def latchHere (e : Event) (beam : Option BeamCode) (s : State) : State := latch e beam s.chain.s s

/-- The reject sum (R191). -/
def rejectSum (s : State) : Nat := s.counters.jumpRejects + s.counters.multiRejects

/-- One reject of a beam: an increment after which the reject sum exceeds P_REJECT_THRESH when it did
not before latches REJECT_THRESHOLD (R191). With the threshold written equal to the sum, the next reject is such an
increment (log 35). -/
def countReject (c : Counter) (beam : BeamCode) (s : State) : State :=
  let s' := count c 1 s
  if rejectSum s ≤ s.params.rejectThresh ∧ s.params.rejectThresh < rejectSum s' then
    latchHere .rejectThreshold (some beam) s'
  else s'

end Sys2Proof.Machine
end

