-- ==== Sys2Proof/Machine/Ops.lean ====
section
/-! DEFINITION. The frame path's queues and forwarding decision (R164, R166, R169, R170), and the exchange
common to all requests (R175). -/

namespace Sys2Proof.Machine

/-! ## Forwarding -/

/-- The Port D forward queue has room for one frame (R169). -/
def roomD (s : State) : Bool := s.portD.queue.length < 16

/-- A frame forwarded from Port U joins the Port D forward queue; at a full queue it is dropped,
counted, and FORWARD_DROP is latched (R169). -/
def forwardToD (f : CanFrame) (s : State) : State :=
  if roomD s then { s with portD := { s.portD with queue := s.portD.queue ++ [f] } }
  else latchHere .forwardDrop none (count .fwdDropUD 1 s)

/-- A frame forwarded from Port D joins the Port U transmit queue; at a full queue it is dropped,
counted, and FORWARD_DROP is latched (R170). -/
def forwardToU (f : CanFrame) (s : State) : State :=
  if roomU s then pushU ⟨f, false⟩ s
  else latchHere .forwardDrop none (count .fwdDropDU 1 s)

/-- A frame that arrived on port `p` goes on to the other port (R166). -/
def forwardFrom (p : Port) (f : CanFrame) (s : State) : State :=
  match p with
  | .u => forwardToD f s
  | .d => forwardToU f s

/-- Whether an entry's ingress is the arrival port or EITHER. -/
def ingressIs (p : Port) (i : Ingress) : Bool :=
  match i, p with
  | .either, _ => true
  | .u, .u => true
  | .d, .d => true
  | .u, .d => false
  | .d, .u => false

/-- An entry matches a frame: in use, its ingress, and agreement at every position of the mask (R164). -/
def fwdMatches (p : Port) (id : Ident) (e : FwdEntry) : Bool :=
  e.inUse && ingressIs p e.ingress && (id &&& e.mask) == (e.value &&& e.mask)

/-- The forwarding decision: the action of the matching entry of lowest index, else P_FWD_DEFAULT
(R164). -/
def fwdAction (p : Port) (id : Ident) (s : State) : Action :=
  match s.fwd.find? (fwdMatches p id) with
  | some e => e.action
  | none => s.params.fwdDefault

/-- A classified frame that the table governs is passed or dropped (R164, R166). -/
def forwardByTable (p : Port) (id : Ident) (f : CanFrame) (s : State) : State :=
  match fwdAction p id s with
  | .pass => forwardFrom p f s
  | .block => s

/-- A frame of class `cls` that a block takes is first forwarded by the table (R160, R166). -/
def forwardTaken (p : Port) (cls : Byte) (f : Arrival) (s : State) : State :=
  forwardByTable p (identOf f.prio cls f.dest f.src f.tag) (frameOf cls f) s

/-- A frame dropped for its form adds 1 to MALFORMED and changes nothing else (R162). -/
def dropMalformed (s : State) : State := count .malformed 1 s

/-- Whether a queued frame is a MANUAL_VALVE frame: a classified data frame of that class. -/
def isManualValve (f : CanFrame) : Bool :=
  match f.id, f.kind with
  | .ext id, .data _ => classOf id = clsManualValve
  | _, _ => false

/-- The forward queue discards every MANUAL_VALVE frame it holds; the others keep their order and
nothing is counted (R168). -/
def discardManualValve (s : State) : State :=
  { s with portD := { s.portD with queue := s.portD.queue.filter (fun f => !isManualValve f) } }

/-! ## The request exchange (R175, R194, R198) -/

inductive Status where
  | ok
  | clamped
  | busy
  | state
  | range
  | sequence
  | noData
  | unknown
  | malformed
deriving DecidableEq, Repr

def statusCode : Status → Nat
  | .ok => 0
  | .clamped => 1
  | .busy => 2
  | .state => 3
  | .range => 4
  | .sequence => 5
  | .noData => 6
  | .unknown => 7
  | .malformed => 8

/-- The code of a control state (R197). -/
def stateCode : CtlState → Nat
  | .standby => 0
  | .manual => 1
  | .auto => 2
  | .hold => 3
  | .suspended => 4
  | .test => 5
  | .tripped => 6

/-- What carrying out a request gives: its status, the body of an OK or CLAMPED reply, and the state. -/
structure Answer where
  status : Status
  body : List Byte
  state : State
deriving DecidableEq, Repr

/-- A request carried out. -/
def done (body : List Byte) (s : State) : Answer := ⟨.ok, body, s⟩

/-- A request refused with nothing changed. -/
def refuse (st : Status) (s : State) : Answer := ⟨st, [], s⟩

/-- The MGMT_REPLY frame: code, status, control state after the request, body length and body; only OK
and CLAMPED carry a body (R172, R175, R194). -/
def replyFrame (code : Byte) (r : Request) (a : Answer) : CanFrame :=
  let body := if a.status = .ok ∨ a.status = .clamped then a.body else []
  ownFrame a.state.node 5 clsMgmtReply r.src r.tag
    ([code, byte (statusCode a.status), byte (stateCode a.state.ctl.state), byte body.length] ++ body)

/-- The reply joins the Port U transmit queue; at a full queue it is dropped and counted, and the
request's effects stand (R170, R175). -/
def sendReply (code : Byte) (r : Request) (a : Answer) : State :=
  if roomU a.state then pushU ⟨replyFrame code r a, false⟩ a.state
  else count .replyDropped 1 a.state

/-- The forwarding of a request's own frame, made before the management unit takes it (R160, R166). -/
def forwardRequest (dest : BitVec 6) (code : Byte) (r : Request) (s : State) : State :=
  forwardByTable .u (identOf r.prio clsMgmtReq dest r.src r.tag) (requestFrame dest code r) s

/-- A request of body length `n`: its frame is forwarded by the table, its length is judged, the rule
that owns it is carried out, and the one reply is queued (R175). -/
def answerRequest (code : Byte) (n : Nat) (r : Request) (act : List Byte → State → Answer)
    (s : State) : State :=
  let s := forwardRequest s.node code r s
  match bodyOf n r with
  | none => sendReply code r (refuse .malformed s)
  | some body => sendReply code r (act body s)

end Sys2Proof.Machine
end

