-- ==== Sys2Proof/Machine/Profile.lean ====
section
/-! DEFINITION. The profile store's evaluations: base offsets, segment, design target, speed cap
(R46, R55 to R59), and the swap of the banks (R54). -/

namespace Sys2Proof.Machine

/-- The base offsets of the entries after the one at `prev`, whose offset is `b` (R46). -/
def offsetsFrom (basis : Int) (prev : ProfileEntry) (b : Int) : List ProfileEntry → List Int
  | [] => []
  | e :: rest =>
    let b' := b + (prev.grade - basis) * ((e.start : Int) - prev.start) + e.step.getD 0 * 10000
    b' :: offsetsFrom basis e b' rest

/-- The base offsets of a profile against a basis grade, in 10⁻⁵ mm, exact (R46): B_0 = 0. -/
def baseOffsets (basis : Int) : List ProfileEntry → List Int
  | [] => []
  | e :: rest => 0 :: offsetsFrom basis e 0 rest

/-- Every base offset lies within ±200,000,000 (R43, R46). -/
def offsetsInRange (l : List Int) : Bool := l.all (fun b => -200000000 ≤ b && b ≤ 200000000)

/-- The entries' start chainages strictly increase (R43, R45). -/
def startsIncrease : List ProfileEntry → Bool
  | [] => true
  | [_] => true
  | a :: b :: rest => a.start < b.start && startsIncrease (b :: rest)

/-- The segment at a chainage with its base offset: the entry of the greatest start at or below it
(R55). -/
def segmentAt (bank : Bank) (s : Nat) : Option (ProfileEntry × Int) :=
  ((bank.entries.zip bank.offsets).filter (fun e => e.1.start ≤ s)).getLast?

/-- The rounded quotient of R56, before saturation. -/
def targetQuotient (bank : Bank) (s : Nat) : Option Int :=
  (segmentAt bank s).map fun (e, b) =>
    roundDiv (b + (e.grade - bank.basis) * ((s : Int) - e.start)) 10000

/-- The design target at a chainage, saturated to ±20,000 (R56, R57); none with the bank empty (R58). -/
def targetAt (bank : Bank) (s : Nat) : Option Int :=
  (targetQuotient bank s).map (clampInt (-20000) 20000)

/-- Whether an evaluation at a chainage saturates (R57). -/
def targetSaturates (bank : Bank) (s : Nat) : Bool :=
  match targetQuotient bank s with
  | some t => t < -20000 || 20000 < t
  | none => false

/-- Forming a target at a chainage: a saturating evaluation latches TARGET_SATURATED with that chainage
(R57, R58). -/
def noteTarget (at_ : Nat) (s : State) : State :=
  if targetSaturates s.store.active at_ then latch .targetSaturated none at_ s else s

/-- The speed cap of the segment at a chainage (R59). -/
def capAt (bank : Bank) (s : Nat) : Option Nat := (segmentAt bank s).bind (·.1.cap)

/-- A swap or takeover: the STAGING bank becomes ACTIVE whole, STAGING is empty, the pending record is
absent, and PROFILE_SWAPPED is latched (R54). -/
def swapBanks (s : State) : State :=
  latchHere .profileSwapped none
    { s with store := { s.store with active := s.store.staging, staging := emptyBank, takeover := none } }

/-- A pending takeover is carried out at once when the run ends (R51). -/
def finishTakeover (s : State) : State :=
  if s.store.takeover.isSome then swapBanks s else s

end Sys2Proof.Machine
end

