-- ==== Sys2Proof/Machine/Measure.lean ====
section
/-! DEFINITION. The measured depth: tilt correction (R16), measured depth through a beam and its freshness
(R17, R18), the reference (R21), the depth error (R99). -/

namespace Sys2Proof.Machine

def getBeam (t : Beams) : BeamCode → Beam
  | .b0 => t.e0
  | .b1 => t.e1
  | .b2 => t.e2
  | .b3 => t.e3

def putBeam (t : Beams) (c : BeamCode) (e : Beam) : Beams :=
  match c with
  | .b0 => { t with e0 := e }
  | .b1 => { t with e1 := e }
  | .b2 => { t with e2 := e }
  | .b3 => { t with e3 := e }

/-- The entry of a beam code. -/
def beam (s : State) (c : BeamCode) : Beam := getBeam s.beams c

/-- The entry of a beam code replaced. -/
def setBeam (c : BeamCode) (e : Beam) (s : State) : State := { s with beams := putBeam s.beams c e }

/-- A change to every entry. -/
def mapBeams (f : Beam → Beam) (s : State) : State :=
  { s with beams := ⟨f s.beams.e0, f s.beams.e1, f s.beams.e2, f s.beams.e3⟩ }

/-- An entry is the reference when it is in REFERENCE or FADING (R21). -/
def isRef (e : Beam) : Bool := e.state = .reference || e.state = .fading

/-- The reference code, none when no entry is in REFERENCE or FADING (R21). -/
def reference (s : State) : Option BeamCode := allBeams.find? (fun c => isRef (beam s c))

/-- The entry in REFERENCE, not counting one in FADING. -/
def steadyReference (s : State) : Option BeamCode :=
  allBeams.find? (fun c => (beam s c).state = .reference)

/-- The tilt correction: linear interpolation in the table, quotient rounded half away from zero (R16). -/
def correction (table : List Int) (theta : Int) : Int :=
  let x := (theta + 1200).toNat
  let i := x / 100
  let f := x % 100
  let c := table.getD i 0
  if i = 24 then c else c + roundDiv ((table.getD (i + 1) 0 - c) * f) 100

/-- The measured depth through an entry with a given offset: H = b + O + P_MAST + C, formed exactly;
absent without an accepted height or a tilt table (R17). -/
def depthThrough (e : Beam) (offset : Int) (s : State) : Option Int :=
  match e.accepted, s.store.tiltTable with
  | some h, some table => some (h.b + offset + s.params.mast + correction table s.tilt.theta)
  | _, _ => none

/-- H_meas and the code of the beam it is formed through (R17). -/
def measured (s : State) : Option (Int × BeamCode) :=
  match reference s with
  | none => none
  | some c => (depthThrough (beam s c) ((beam s c).offset.getD 0) s).map (·, c)

/-- The age of the measured depth through an entry (R18). -/
def measuredAge (e : Beam) (s : State) : Option Nat := e.accepted.map (fun h => age s.now.ms h.time)

/-- The measurement through an entry is fresh: its age is at most P_STRIKE_TMO (R18). -/
def freshBeam (e : Beam) (s : State) : Bool :=
  match measuredAge e s with
  | some a => a ≤ s.params.strikeTmo
  | none => false

/-- The measurement through an entry is one that BENCH and TEST_START take: fresh, and not of an entry in FADING,
which R39 and R133 always refuse (log 36). -/
def takenFresh (e : Beam) (s : State) : Bool := e.state ≠ .fading && freshBeam e s

/-- H_des at a chainage: D_set + T, formed exactly (R77). -/
def designDepth (at_ : Nat) (s : State) : Option Int :=
  (targetAt s.store.active at_).map (s.run.dSet + ·)

end Sys2Proof.Machine
end

