-- ==== Sys2Proof/Machine/Channels.lean ====
section
/-! DEFINITION. The output channels: writes by update mode (R113, R114), emission with the reversal dwell
gate and the valve map (R112, R123, R125), silencing and the frames emitted at once (R118, R119). -/

namespace Sys2Proof.Machine

/-! ## Valve map -/

/-- The current of a demand in a map: interpolation between the points of the lowest j with
d_j ≤ u ≤ d_{j+1}, quotient rounded half away from zero (R125). -/
def mapCurrent : List MapPoint → Nat → Option Nat
  | a :: b :: rest, u =>
    if a.d ≤ u ∧ u ≤ b.d then
      some (a.i + roundDiv (((b.i : Int) - a.i) * ((u : Int) - a.d)) (b.d - a.d)).toNat
    else mapCurrent (b :: rest) u
  | _, _ => none

/-- The committed map of a direction. -/
def valveMap (d : Dir) (s : State) : Option (List MapPoint) :=
  match d with
  | .raise => s.store.raiseMap
  | .lower => s.store.lowerMap

/-- The current of a demand. Every emitted demand has a map that spans it (R124); a state without one is
reached by no run, and the current is then 0 (log 16). -/
def demandCurrent (d : Dir) (u : Nat) (s : State) : Nat :=
  ((valveMap d s).bind (mapCurrent · u)).getD 0

/-! ## Reversal dwell -/

/-- A direction may be emitted: no frame of the opposite direction has been emitted less than P_DWELL
ago (R123). -/
def dwellClear (d : Dir) (s : State) : Bool :=
  match (match d with | .raise => s.depth.lastLower | .lower => s.depth.lastRaise) with
  | some t => s.params.dwell ≤ age s.now.ms t
  | none => true

/-- Whether the gate forces a DEPTH value to NEUTRAL (R123). -/
def gateForces (v : DepthValue) (s : State) : Bool :=
  match v with
  | .neutral => false
  | .demand d _ => !dwellClear d s
  | .test d _ => !dwellClear d s

/-! ## Emission -/

def dirCode : Option Dir → Nat
  | none => 0
  | some .raise => 1
  | some .lower => 2

/-- What a DEPTH value gives a VALVE_CMD frame: a test value of current 0 is NEUTRAL (R112). -/
def depthFrame (v : DepthValue) (s : State) : DepthFrame :=
  match v with
  | .neutral => ⟨none, 0, 0, s.depth.seq⟩
  | .demand d u => ⟨some d, u, demandCurrent d u s, s.depth.seq⟩
  | .test d i => if i = 0 then ⟨none, 0, 0, s.depth.seq⟩ else ⟨some d, 0, i, s.depth.seq⟩

/-- The VALVE_CMD frame (R172, R196). -/
def valveCmd (f : DepthFrame) (s : State) : CanFrame :=
  ownFrame s.node 1 clsValveCmd broadcastNode 0
    ([byte (dirCode f.dir)] ++ bytes2 f.current ++ [f.seq])

/-- A DEPTH frame placed in its command slot: sequence, dwell times, emitted mark, last frame (R112,
R127). -/
def placeDepth (f : DepthFrame) (s : State) : State :=
  { s with
    portD := { s.portD with depthSlot := some (valveCmd f s) }
    depth := { s.depth with
      last := some f
      emitted := true
      seq := s.depth.seq + 1
      lastRaise := if f.dir = some .raise then some s.now.ms else s.depth.lastRaise
      lastLower := if f.dir = some .lower then some s.now.ms else s.depth.lastLower } }

/-- The held value is set. -/
def holdDepth (v : DepthValue) (s : State) : State := { s with depth := { s.depth with held := v } }

/-- Emission of the held value: the gate may force it to NEUTRAL, the held value then becoming NEUTRAL and
the demand memory 0 (R123). -/
def emitDepth (s : State) : State :=
  if gateForces s.depth.held s then
    let s := { holdDepth .neutral s with ctl := { s.ctl with memory := 0 } }
    placeDepth (depthFrame .neutral s) s
  else placeDepth (depthFrame s.depth.held s) s

/-- A DEPTH value emitted at once as the held value. -/
def emitDepthNow (v : DepthValue) (s : State) : State := emitDepth (holdDepth v s)

def reasonCode : TravelReason → Nat
  | .none => 0
  | .error => 1
  | .segmentCap => 2
  | .hold => 3
  | .suspended => 4
  | .tripped => 5
  | .test => 6

/-- The TRAVEL_CMD frame (R172, R196). -/
def travelCmd (v : TravelValue) (s : State) : CanFrame :=
  ownFrame s.node 2 clsTravelCmd broadcastNode 0 (bytes2 v.limit ++ [byte (reasonCode v.reason)])

/-- Emission of the held TRAVEL value (R112, R127). -/
def emitTravel (s : State) : State :=
  { s with
    portD := { s.portD with travelSlot := some (travelCmd s.travel.held s) }
    travel := { s.travel with last := some s.travel.held, emitted := true } }

def emitTravelNow (v : TravelValue) (s : State) : State :=
  emitTravel { s with travel := { s.travel with held := v } }

/-! ## Writes -/

/-- The DEPTH channel is silenced in STANDBY and MANUAL (R118). -/
def silenced (s : State) : Bool := s.ctl.state = .standby || s.ctl.state = .manual

/-- The DEPTH channel works as IMMEDIATE: by its parameter, or in TEST (R114, R120). -/
def depthImmediate (s : State) : Bool :=
  s.ctl.state = .test || s.params.modeDepth = .immediate

/-- A value written to the DEPTH channel (R113, R114, R118, R120). -/
def writeDepth (v : DepthValue) (s : State) : State :=
  if silenced s then s
  else if depthImmediate s then emitDepthNow v s
  else { s with depth := { s.depth with waiting := some v, fresh := true } }

/-- A value written to the TRAVEL channel (R113, R114). -/
def writeTravel (v : TravelValue) (s : State) : State :=
  match s.params.modeTravel with
  | .immediate => emitTravelNow v s
  | .synchronous => { s with travel := { s.travel with waiting := some v, fresh := true } }

/-- To silence the DEPTH channel (R118). -/
def silence (s : State) : State :=
  { s with depth := { s.depth with waiting := none, fresh := false, held := .neutral } }

/-- The handback frame: NEUTRAL at once, whatever the mode; pending value absent (R76, R118). -/
def handback (s : State) : State := emitDepthNow .neutral (silence s)

/-- The frames of a trip: pending values absent, NEUTRAL and 0 held and emitted at once (R119). -/
def tripFrames (s : State) : State :=
  emitTravelNow ⟨0, .tripped⟩
    (emitDepthNow .neutral
      { silence s with travel := { s.travel with waiting := none, fresh := false } })

end Sys2Proof.Machine
end

