-- ==== Sys2Proof/Machine/Trace.lean ====
section
/-! DEFINITION. The as-cut trace: positions (R147), the gate (R145), records and crossings (R142 to R149),
streaming (R151 to R153), clearing (R156). -/

namespace Sys2Proof.Machine

/-! ## Positions -/

/-- The anchor: the mark when one is present, else the read pointer (R147). -/
def anchor (t : Trace) : BitVec 32 := t.mark.getD t.read

/-- tail − anchor, modulo 2^32 (R147). -/
def occupancy (t : Trace) : Nat := (t.tail - anchor t).toNat

/-- tail − read pointer, modulo 2^32 (R147). -/
def unread (t : Trace) : Nat := (t.tail - t.read).toNat

/-- The number of records read and kept for a rewind: read pointer − anchor. -/
def readKept (t : Trace) : Nat := (t.read - anchor t).toNat

/-- The ring holds 4,096 records (R147). -/
def ringSize : Nat := 4096

/-- The records at the read pointer: two when two are unread, one when one is (R150, R151). -/
def nextRecords (t : Trace) : List TraceRecord := (t.kept.drop (readKept t)).take (min 2 (unread t))

/-- The read pointer advances past `n` records; with no mark they are released (R147, R150). -/
def advanceRead (n : Nat) (t : Trace) : Trace :=
  match t.mark with
  | some _ => { t with read := t.read + BitVec.ofNat 32 n }
  | none => { t with read := t.read + BitVec.ofNat 32 n, kept := t.kept.drop n }

/-- The records before the read pointer are released: the mark is replaced (R154). -/
def releaseTo (mark : Option (BitVec 32)) (t : Trace) : Trace :=
  { t with mark := mark, kept := t.kept.drop (readKept t) }

/-- Clearing: positions and sequence number 0, no mark, nothing kept; the gate state stays (R156, R157). -/
def clearedTrace (t : Trace) : Trace := ⟨0, 0, none, 0, [], t.gateOpen⟩

/-! ## Record layout (R197) -/

def flagBits (f : TraceFlags) : Byte :=
  presence [f.recut, f.offColumn, f.hold, f.manual, f.tiltStale, f.travelLimited]

/-- The 22 bytes of a record. -/
def recordBytes (r : TraceRecord) : List Byte :=
  bytes4 r.seq.toNat ++ bytes2 r.run ++ bytes4 r.boundary ++ signed4 r.hDes
    ++ signed4 ((r.measured.map (·.1)).getD 0)
    ++ [(r.measured.map (fun m => beamByte m.2)).getD 0, byte (stateCode r.state), flagBits r.flags,
        presence [r.measured.isSome]]

/-! ## Streaming -/

/-- A TRACE_DATA frame may be queued: a record is unread and 8 entries are free (R151). -/
def canStream (s : State) : Bool := 1 ≤ unread s.trace && s.portU.queue.length + 8 ≤ 32

/-- One TRACE_DATA frame with the next records (R151, R197). -/
def streamOne (s : State) : State :=
  let recs := nextRecords s.trace
  let f := ownFrame s.node 6 clsTraceData broadcastNode 0
    (byte recs.length :: (recs.map recordBytes).flatten)
  pushU ⟨f, false⟩ { s with trace := advanceRead (min 2 (unread s.trace)) s.trace }

/-- Up to `k` TRACE_DATA frames, stopping earlier when the condition of R151 fails. -/
def streamUpTo : Nat → State → State
  | 0, s => s
  | k + 1, s => if canStream s then streamUpTo k (streamOne s) else s

/-- BURST streaming, at each of its events (R152). The queue has 32 entries, so 32 frames are enough. -/
def burst (s : State) : State :=
  if s.params.stream = .burst then streamUpTo 32 s else s

/-- INTERMITTENT streaming at an output tick (R153). -/
def streamTick (s : State) : State :=
  if s.params.stream = .intermittent then streamUpTo s.params.streamK s else s

/-! ## Crossings -/

/-- The gate, read at each crossing (R145). -/
def gateIsOpen (s : State) : Bool :=
  match s.params.traceGate with
  | .line => s.lines.dig.active
  | .software => s.trace.gateOpen

/-- The flags of a record (R143). TILT_STALE is read from the record's flag, which its expiry alone turns stale: at the
reading at which the expiry is due, but not yet taken, it is clear (R13, log 39). -/
def recordFlags (recut : Bool) (s : State) : TraceFlags where
  recut := recut
  offColumn := s.ctl.offColumn
  hold := s.ctl.state = .hold || s.ctl.state = .suspended
  manual := s.ctl.state = .manual
  tiltStale := !s.tilt.fresh
  travelLimited :=
    match s.travel.last with
    | some v => v.limit < 10000
    | none => false

/-- H_meas with the reference code, present when it is present and fresh (R142). -/
def recordMeasurement (s : State) : Option (Int × BeamCode) :=
  match measured s with
  | some (h, c) => if freshBeam (beam s c) s then some (h, c) else none
  | none => none

/-- The record of a crossing, from the state when it is formed (R142 to R144). A run is open at a crossing,
so the ACTIVE bank holds a profile (R58); a state without one is reached by no run, and the target is then
read as 0 (log 16). -/
def formRecord (beta : Nat) (recut : Bool) (seq : BitVec 32) (s : State) : TraceRecord where
  seq := seq
  run := s.run.number
  boundary := beta
  hDes := s.run.dSet + (targetAt s.store.active beta).getD 0
  measured := recordMeasurement s
  state := s.ctl.state
  flags := recordFlags recut s

/-- A record dropped at a full ring (R148). -/
def dropRecord (beta : Nat) (s : State) : State :=
  latch .traceOverrun none beta (count .traceDropped 1 s)

/-- A record written at the tail (R146 step 4): the target it reads is noted (R144). -/
def storeRecord (beta : Nat) (recut : Bool) (seq : BitVec 32) (s : State) : State :=
  let s := noteTarget beta s
  let r := formRecord beta recut seq s
  { s with trace := { s.trace with tail := s.trace.tail + 1, kept := s.trace.kept ++ [r] } }

/-- TRACE_HIGH at a write after which the occupancy equals P_TRACE_HIGH (R149). -/
def checkWatermark (beta : Nat) (s : State) : State :=
  if occupancy s.trace = s.params.traceHigh then latch .traceHigh none beta s else s

/-- One boundary crossing taken by the trace (R146), with BURST streaming at a record written (R152). The
watermark is checked before the streaming (log 11). -/
def crossing (recut : Bool) (beta : Nat) (s : State) : State :=
  if gateIsOpen s then
    let seq := s.trace.seqNo
    let s := { s with trace := { s.trace with seqNo := seq + 1 } }
    if ringSize ≤ occupancy s.trace then dropRecord beta s
    else burst (checkWatermark beta (storeRecord beta recut seq s))
  else s

end Sys2Proof.Machine
end

