-- ==== Sys2Proof/Machine/Control.lean ====
section
/-! DEFINITION. The run and control unit: transitions with what they put on the outputs (R76, R168), the
beam table's reports (R84 to R86, R88), the valve test's ending (R138), the trip (R91), and the control
computation (R97 to R109). -/

namespace Sys2Proof.Machine

/-! ## Transitions -/

/-- The control state set. The off-column indication is cleared at every transition into or out of AUTO
(R103). -/
def setState (new : CtlState) (s : State) : State :=
  { s with ctl := { s.ctl with
      state := new
      offColumn := if new = .auto ∨ s.ctl.state = .auto then false else s.ctl.offColumn } }

def setMemory (u : Int) (s : State) : State := { s with ctl := { s.ctl with memory := u } }

/-- Entry to STANDBY or MANUAL: TRAVEL 10,000, DEPTH silenced (R76, R118). The TRAVEL write follows the update mode:
under SYNCHRONOUS 10,000 NONE is pending and the old held value stays until the next tick (R113, log 42). -/
def enterIdle (new : CtlState) (s : State) : State :=
  writeTravel ⟨10000, .none⟩ (silence (setState new s))

/-- A transition into STANDBY or MANUAL, with the handback frame first when the state is AUTO, HOLD,
SUSPENDED or TRIPPED (R76). -/
def releaseControl (new : CtlState) (s : State) : State :=
  match s.ctl.state with
  | .auto | .hold | .suspended | .tripped => enterIdle new (handback s)
  | .standby | .manual | .test => enterIdle new s

/-- A transition into AUTO: demand memory 0, nothing written to the channels, waiting MANUAL_VALVE frames
discarded (R82, R85, R87, R168). -/
def enterAuto (s : State) : State := discardManualValve (setState .auto (setMemory 0 s))

/-- Entry to HOLD (R76, R84). -/
def enterHold (s : State) : State :=
  writeTravel ⟨s.params.lHold, .hold⟩ (writeDepth .neutral (setState .hold s))

/-- Entry to SUSPENDED (R76, R86). -/
def enterSuspended (s : State) : State :=
  writeTravel ⟨0, .suspended⟩ (writeDepth .neutral (setState .suspended s))

/-- Entry to TEST: the prior-state record, TRAVEL 0, waiting MANUAL_VALVE frames discarded (R90, R168). -/
def enterTest (s : State) : State :=
  let s := discardManualValve (setState .test { s with ctl := { s.ctl with prior := some s.ctl.state } })
  writeTravel ⟨0, .test⟩ s

/-! ## The valve test's ending -/

def testRun (s : State) : Option TestRun :=
  match s.test.phase with
  | .idle => none
  | .waiting t => some t
  | .stepping t _ _ _ => some t

def testRunning (s : State) : Bool := (testRun s).isSome

/-- Movement in the test's direction: b0 − b for RAISE, b − b0 for LOWER (R132). -/
def movement (t : TestRun) (b : Int) : Int :=
  match t.dir with
  | .raise => t.b0 - b
  | .lower => b - t.b0

/-- The result record of an ending (R132). -/
def testRecord (o : TestOutcome) (t : TestRun) (current : Option Nat) (s : State) : TestRecord where
  outcome := o
  dir := some t.dir
  beam := some t.beam
  current := current
  movement := (beam s t.beam).accepted.map (fun h => movement t h.b)
  duration := some (age s.now.ms t.start)

/-- Steps 1 to 4 of an ending: the NEUTRAL frame except for a STOP, the record, TEST_DONE, IDLE (R138). -/
def closeTest (o : TestOutcome) (t : TestRun) (current : Option Nat) (s : State) : State :=
  let s := if o = .stop then s else emitDepthNow .neutral s
  let s := { s with test := { s.test with result := testRecord o t current s } }
  let s := latchHere .testDone (some t.beam) s
  { s with test := { s.test with phase := .idle } }

/-- Steps 1 to 4 of an ending of the running test, if one runs. -/
def closeRunningTest (o : TestOutcome) (s : State) : State :=
  match s.test.phase with
  | .idle => s
  | .waiting t => closeTest o t none s
  | .stepping t i _ _ => closeTest o t (some i) s

def clearPrior (s : State) : State := { s with ctl := { s.ctl with prior := none } }

/-- The end handed to the run and control unit: the state returns to the one the prior-state record names
(R90). The record is present in TEST; where it is absent no test runs, and the state is left (log 16). -/
def returnFromTest (s : State) : State :=
  match s.ctl.prior with
  | some p => clearPrior (enterIdle p s)
  | none => s

/-- An ending of the running test other than by STOP and run clear (R138); nothing when no test runs. -/
def endTest (o : TestOutcome) (s : State) : State :=
  if testRunning s then returnFromTest (closeRunningTest o s) else s

/-! ## Reports from the other blocks -/

/-- The fading of the reference moves AUTO to HOLD (R84). -/
def reportFading (c : BeamCode) (s : State) : State :=
  if s.ctl.state = .auto then
    latchHere .holdEntered (some c) (enterHold { s with chain := { s.chain with dH := 0 } })
  else s

/-- The return of the reference, or a handover, moves HOLD to AUTO (R85). -/
def reportRecovered (s : State) : State := if s.ctl.state = .hold then enterAuto s else s

/-- HOLD to SUSPENDED, by a loss with no beam taking over or by the HOLD distance expiry (R86). -/
def reportSuspend (s : State) : State :=
  if s.ctl.state = .hold then
    let s := enterSuspended s
    latchHere .suspended (reference s) s
  else s

/-- A reference change: every sample window is emptied and the demand memory becomes 0 (R30). -/
def referenceChanged (s : State) : State :=
  setMemory 0 (mapBeams (fun e => { e with window := [] }) s)

/-- The trip (R91, R119, R168): a running test ends ABORTED_STOP, the state becomes TRIPPED from any state,
the trip frames are emitted, TRIPPED is latched. -/
def trip (s : State) : State :=
  let s := clearPrior (closeRunningTest .stop s)
  latchHere .tripped none (tripFrames (discardManualValve (setState .tripped s)))

/-! ## The control computation -/

/-- The raw demand of a measured computation (R100), positive for RAISE. -/
def rawDemand (e : Int) (p : Params) : Int :=
  if e.natAbs ≤ p.window then 0
  else
    let m : Int := min p.umax (p.umin + p.gain * (e.natAbs - p.window))
    if 0 < e then m else -m

/-- The slew limit (R104). -/
def slewLimit (raw prev : Int) (slew : Nat) : Int :=
  if raw = 0 then 0
  else if prev = 0 then (if 0 < raw then min raw slew else max raw (-(slew : Int)))
  else if 0 < raw ∧ 0 < prev then (if prev < raw then min raw (prev + slew) else raw)
  else if raw < 0 ∧ prev < 0 then (if raw < prev then max raw (prev - slew) else raw)
  else 0

/-- The travel limit L_err of a measured computation (R107). -/
def errorLimit (e : Int) (p : Params) : Nat :=
  if e.natAbs ≤ p.eSlow then 10000
  else max p.lMin (10000 - p.kTravel * (e.natAbs - p.eSlow))

/-- The travel limit bounded by the speed cap of the segment, with its reason (R108). -/
def cappedLimit (lErr : Nat) (cap : Option Nat) : TravelValue :=
  let plain : TravelValue := ⟨lErr, if lErr < 10000 then .error else .none⟩
  match cap with
  | some c => if c < lErr then ⟨c, .segmentCap⟩ else plain
  | none => plain

/-- A signed demand as a DEPTH value (R109). -/
def demandValue (u : Int) : DepthValue :=
  if u = 0 then .neutral else if 0 < u then .demand .raise u.natAbs else .demand .lower u.natAbs

/-- The common end of a computation: slew limit, demand memory, travel limit, the two writes (R102, R104,
R108, R109). -/
def finishComputation (raw : Int) (lErr : Nat) (s : State) : State :=
  let u := slewLimit raw s.ctl.memory s.params.slew
  let l := cappedLimit lErr (capAt s.store.active s.chain.s)
  writeTravel l (writeDepth (demandValue u) (setMemory u s))

/-- The depth error now, H_meas − H_des (R99). -/
def depthError (s : State) : Option Int :=
  match measured s, designDepth s.chain.s s with
  | some (h, _), some d => some (h - d)
  | _, _ => none

def setOffColumn (b : Bool) (s : State) : State := { s with ctl := { s.ctl with offColumn := b } }

/-- A measured computation (R98 to R101). Both operands are present in AUTO (R98); a state without them is
reached by no run, and no computation is made (log 16). -/
def measuredComputation (s : State) : State :=
  match depthError s with
  | some e =>
    finishComputation (rawDemand e s.params) (errorLimit e s.params)
      (setOffColumn false (noteTarget s.chain.s s))
  | none => s

/-- An off-column computation: raw demand ±P_UMAX, travel limit P_L_MIN, OFF_COLUMN latched with the
reference's code (R103). -/
def offColumnComputation (c : BeamCode) (high : Bool) (s : State) : State :=
  let raw : Int := if high then s.params.umax else -(s.params.umax : Int)
  finishComputation raw s.params.lMin (setOffColumn true (latchHere .offColumn (some c) s))

/-- A reference strike handed to the run and control unit: a computation in AUTO, nothing in any other state
(R97). -/
def referenceStrike (c : BeamCode) (r : StrikeResult) (s : State) : State :=
  if s.ctl.state = .auto then
    match r with
    | .accepted _ | .rebased _ => measuredComputation s
    | .edgeHigh => offColumnComputation c true s
    | .edgeLow => offColumnComputation c false s
    | .jumpRejected | .multi => s
  else s

end Sys2Proof.Machine
end

