-- ==== Sys2Proof/Machine/BeamTable.lean ====
section
/-! DEFINITION. The strike interpreter (R3 to R12) and the beam table (R20 to R39): sequence check, jump
filter, acquisition, offset estimation, timeouts, handover, and the commands STRIKE, TILT,
STRIKE_TIMEOUT, REFERENCE_TIMEOUT, FADING_TIMEOUT and TILT_EXPIRY. -/

namespace Sys2Proof.Machine

/-! ## Form of a STRIKE and of a TILT frame -/

inductive StrikeKind where
  | single (position : Int)
  | edgeHigh
  | edgeLow
  | multi
deriving DecidableEq, Repr

/-- A well-formed STRIKE frame's fields. -/
structure Strike where
  code : BeamCode
  kind : StrikeKind
  seq : Byte
deriving DecidableEq, Repr

/-- The kind of a strike; none where the kind is not defined, or is SINGLE with a position outside ±255
(R3, R196). -/
def strikeKind (kind hi lo : Byte) : Option StrikeKind :=
  match kind.toNat with
  | 0 => if (int2 hi lo).natAbs ≤ 255 then some (.single (int2 hi lo)) else none
  | 1 => some .edgeHigh
  | 2 => some .edgeLow
  | 3 => some .multi
  | _ => none

/-- The fields of a STRIKE frame's data, none when it is malformed (R3, R196). -/
def parseStrike (data : List Byte) : Option Strike :=
  match data with
  | b :: k :: hi :: lo :: seq :: _ =>
    match beamOfByte b, strikeKind k hi lo with
    | some c, some kind => some ⟨c, kind, seq⟩
    | _, _ => none
  | _ => none

/-- The reported tilt of a TILT frame's data, none when it is malformed (R12, R196). -/
def parseTilt (data : List Byte) : Option Int :=
  match data with
  | hi :: lo :: _ :: _ => if (int2 hi lo).natAbs ≤ 9000 then some (int2 hi lo) else none
  | _ => none

/-! ## Strike interpreter -/

/-- The sequence check (R5). -/
def checkSequence (c : BeamCode) (n : Byte) (s : State) : State :=
  let missing := match (beam s c).seq with
    | some q => (n - q - 1).toNat
    | none => 0
  let s := if 0 < missing then latchHere .strikeGap (some c) (count .strikeGaps missing s) else s
  setBeam c { beam s c with seq := some n } s

/-- The beam height of a SINGLE strike (R4). -/
def beamHeight (position : Int) (p : Params) : Int := roundDiv (position * p.pitch) 4

/-- The height passes the window of an entry: b_last absent, or within P_JUMP (R7). -/
def passesWindow (b : Int) (e : Beam) (p : Params) : Bool :=
  match e.accepted with
  | none => true
  | some h => (b - h.b).natAbs ≤ p.jump

/-- An accepted SINGLE: b_last and its time set, count 0, ACCEPTED_STRIKES (R7, R8). The last strike time is
set and the fade time becomes absent (R20). -/
def acceptHeight (c : BeamCode) (b : Int) (s : State) : State :=
  count .acceptedStrikes 1
    (setBeam c { beam s c with
      accepted := some ⟨b, s.now.ms⟩, rejects := 0, lastStrike := some s.now.ms, fade := none } s)

/-- A window failure (R8): counted; a rebase when the consecutive count reaches P_JUMPN, else rejected. A
rejected strike keeps the fade time of an entry in FADING (R20, R27). -/
def failWindow (c : BeamCode) (b : Int) (s : State) : StrikeResult × State :=
  let s := countReject .jumpRejects c s
  let e := beam s c
  if e.rejects + 1 < s.params.jumpn then
    (.jumpRejected,
     setBeam c { e with
       rejects := e.rejects + 1, lastStrike := some s.now.ms
       fade := if e.state = .fading then e.fade else none } s)
  else (.rebased b, latchHere .jumpRebased (some c) (acceptHeight c b s))

/-- The handling by kind (R6 to R10): the strike's result (R11) and the entry's filter. -/
def handleKind (c : BeamCode) (kind : StrikeKind) (s : State) : StrikeResult × State :=
  match kind with
  | .single p =>
    let b := beamHeight p s.params
    if passesWindow b (beam s c) s.params then (.accepted b, acceptHeight c b s)
    else failWindow c b s
  | .edgeHigh => (.edgeHigh, setBeam c { beam s c with lastStrike := some s.now.ms, fade := none } s)
  | .edgeLow => (.edgeLow, setBeam c { beam s c with lastStrike := some s.now.ms, fade := none } s)
  | .multi => (.multi, countReject .multiRejects c s)

/-! ## Beam table: a strike's result -/

/-- ESTABLISHED entries go to TRACKING with their offset discarded (R31, R39). -/
def dropEstablished (e : Beam) : Beam :=
  if e.state = .established then { e with state := .tracking, offset := none, window := [] } else e

/-- The automatic choice of a first reference when an entry has reached TRACKING (R31). -/
def chooseFirst (c : BeamCode) (s : State) : State :=
  if (reference s).isNone ∧ (s.run.isOpen = false ∨ s.run.benched = false) then
    let s := mapBeams dropEstablished s
    referenceChanged (setBeam c { beam s c with state := .reference, offset := some 0 } s)
  else s

/-- An accepted strike of an ACQUIRING entry (R24). -/
def countGood (c : BeamCode) (s : State) : State :=
  let e := beam s c
  if s.params.acq ≤ e.good + 1 then
    chooseFirst c
      (latchHere .beamAcquired (some c) (setBeam c { e with state := .tracking, good := 0 } s))
  else setBeam c { e with good := e.good + 1 } s

/-- The mean of a full window, rounded half away from zero and clamped (R34). -/
def meanOffset (w : List Int) (n : Nat) : Int := clampInt (-6400) 6400 (roundDiv w.sum n)

/-- The largest sample less the smallest (R34). -/
def spread (w : List Int) : Int := (w.max?).getD 0 - (w.min?).getD 0

/-- The test of a window that a sample has filled (R34). -/
def judgeWindow (c : BeamCode) (s : State) : State :=
  let e := beam s c
  if e.window.length = s.params.ofsN then
    if spread e.window ≤ s.params.ofsTol then
      latchHere .offsetEstablished (some c)
        (setBeam c { e with
          state := .established, offset := some (meanOffset e.window s.params.ofsN), window := [] } s)
    else latchHere .offsetUnstable (some c) (setBeam c { e with window := [] } s)
  else s

/-- An accepted strike, of height b, of a TRACKING entry: an offset sample when paired with the entry in
REFERENCE (R33). -/
def pairStrike (c : BeamCode) (b : Int) (s : State) : State :=
  match steadyReference s with
  | none => s
  | some x =>
    match (beam s x).accepted with
    | none => s
    | some h =>
      if age s.now.ms h.time ≤ s.params.pair then
        let e := beam s c
        judgeWindow c (setBeam c { e with window := e.window ++ [h.b + (beam s x).offset.getD 0 - b] } s)
      else s

/-- The state part of a strike's handling by the beam table (R23, R24, R27, R31 to R34). -/
def beamTransition (c : BeamCode) (r : StrikeResult) (s : State) : State :=
  let e := beam s c
  match e.state, r with
  | .unseen, .multi | .lost, .multi => s
  | .unseen, .accepted _ | .unseen, .rebased _ | .lost, .accepted _ | .lost, .rebased _ =>
    countGood c (setBeam c { e with state := .acquiring, good := 0 } s)
  | .unseen, _ | .lost, _ => setBeam c { e with state := .acquiring, good := 0 } s
  | .acquiring, .accepted _ | .acquiring, .rebased _ => countGood c s
  | .acquiring, .jumpRejected => setBeam c { e with good := 0 } s
  | .acquiring, _ => s
  | .tracking, .accepted b | .tracking, .rebased b => pairStrike c b s
  | .tracking, _ => s
  | .fading, .accepted _ | .fading, .rebased _ | .fading, .edgeHigh | .fading, .edgeLow =>
    reportRecovered (setBeam c { e with state := .reference, fade := none } s)
  | .fading, _ => s
  | .established, _ => s
  | .reference, _ => s

/-- A strike of the entry in REFERENCE that is handed on as a reference strike (R32). -/
def handReferenceStrike (c : BeamCode) (r : StrikeResult) (s : State) : State :=
  if (beam s c).state = .reference then referenceStrike c r s else s

/-- The strike handed to a running test whose beam it is (R136). -/
def handTestStrike (c : BeamCode) (r : StrikeResult) (s : State) : State :=
  let renewed (t : TestRun) : TestRun := { t with lastUsable := s.now.ms }
  match s.test.phase, r with
  | .idle, _ => s
  | .waiting t, .accepted _ | .waiting t, .rebased _ =>
    if t.beam = c then { s with test := { s.test with phase := .waiting (renewed t) } } else s
  | .stepping t i m m0, .accepted _ | .stepping t i m m0, .rebased _ =>
    if t.beam = c then { s with test := { s.test with phase := .stepping (renewed t) i m m0 } } else s
  | .waiting t, .edgeHigh | .waiting t, .edgeLow | .stepping t _ _ _, .edgeHigh
  | .stepping t _ _ _, .edgeLow => if t.beam = c then endTest .offColumn s else s
  | _, .jumpRejected | _, .multi => s

/-- A well-formed strike handled whole: sequence check, kind, beam table with its reports, reference strike,
test (R3, R32, R136). -/
def handleStrike (k : Strike) (s : State) : State :=
  let s := checkSequence k.code k.seq s
  let rs := handleKind k.code k.kind s
  handTestStrike k.code rs.1 (handReferenceStrike k.code rs.1 (beamTransition k.code rs.1 rs.2))

/-! ## Timeouts -/

/-- The expiry condition of an entry: more than P_STRIKE_TMO since its last strike time and, where it holds
a fade time, since that too (R25, R26, R28). -/
def silent (e : Beam) (s : State) : Bool :=
  (match e.lastStrike with
   | some t => s.params.strikeTmo < age s.now.ms t
   | none => false) &&
  (match e.fade with
   | some t => s.params.strikeTmo < age s.now.ms t
   | none => true)

/-- An entry as it stands in LOST (R6, R25). -/
def lostEntry (e : Beam) : Beam :=
  { e with
    state := .lost, offset := none, window := [], good := 0, fade := none, accepted := none
    rejects := 0 }

/-- An entry moves to LOST: BEAM_LOST, and the ending of a test of that beam (R25, R136). The test ends right
after the latch (log 10). -/
def loseBeam (c : BeamCode) (s : State) : State :=
  let s := latchHere .beamLost (some c) (setBeam c (lostEntry (beam s c)) s)
  match testRun s with
  | some t => if t.beam = c then endTest .noBeam s else s
  | none => s

/-- The strike timeout of an entry in ACQUIRING, TRACKING or ESTABLISHED is due (R25). -/
def strikeTimeoutDue (c : BeamCode) (s : State) : Bool :=
  let e := beam s c
  (e.state = .acquiring || e.state = .tracking || e.state = .established) && silent e s

def strikeTimeout (c : BeamCode) (s : State) : State :=
  if strikeTimeoutDue c s then loseBeam c s else s

/-- The strike timeout of the reference, in a given state of it, is due. -/
def refTimeoutDue (st : BeamState) (s : State) : Bool :=
  match reference s with
  | some c => (beam s c).state = st && silent (beam s c) s
  | none => false

/-- REFERENCE to FADING with the fade time (R26), reported to the run and control unit (R84). -/
def fadeReference (c : BeamCode) (s : State) : State :=
  reportFading c (latchHere .referenceFading (some c)
    (setBeam c { beam s c with state := .fading, fade := some s.now.ms } s))

/-- How long ago an entry's accepted strike was, for the choice of R36; an ESTABLISHED entry always has one
(log 16). -/
def acceptedAge (e : Beam) (s : State) : Nat := (measuredAge e s).getD 4294967296

/-- The better of two ESTABLISHED candidates: the smaller age, else the one of lower code (R36). -/
def latestOf (s : State) (best : Option BeamCode) (c : BeamCode) : Option BeamCode :=
  if (beam s c).state = .established then
    match best with
    | none => some c
    | some b => if acceptedAge (beam s c) s < acceptedAge (beam s b) s then some c else some b
  else best

/-- The ESTABLISHED entry whose accepted strike is latest (R36). -/
def latestEstablished (s : State) : Option BeamCode := allBeams.foldl (latestOf s) none

/-- An entry becomes the reference by a handover: offset kept, fade time absent, HANDOVER_DONE (R36, R37). -/
def takeOver (c : BeamCode) (s : State) : State :=
  latchHere .handoverDone (some c)
    (setBeam c { beam s c with state := .reference, fade := none } s)

/-- The second expiry of the fading reference: LOST, a reference change, the automatic handover, and the
report that moves HOLD to AUTO or to SUSPENDED (R28, R30, R36, R85, R86). The reference change sets the demand memory to
0, also where HOLD then moves to SUSPENDED, for which the table under R88 says that it is kept (R30, R105, log 40). -/
def loseReference (c : BeamCode) (s : State) : State :=
  let s := referenceChanged (loseBeam c s)
  match (if s.params.autoHandover = 1 then latestEstablished s else none) with
  | some y => reportRecovered (takeOver y s)
  | none => reportSuspend s

/-- REFERENCE_TIMEOUT (R26). -/
def referenceTimeout (s : State) : State :=
  match reference s with
  | some c => if refTimeoutDue .reference s then fadeReference c s else s
  | none => s

/-- FADING_TIMEOUT (R28). -/
def fadingTimeout (s : State) : State :=
  match reference s with
  | some c => if refTimeoutDue .fading s then loseReference c s else s
  | none => s

/-- The expiries a PARAM_WRITE of P_STRIKE_TMO takes: the entries other than the reference in increasing beam
code, then the reference, which is given one (R29). -/
def expireAll (s : State) : State :=
  let s := allBeams.foldl (fun s c => strikeTimeout c s) s
  match reference s with
  | some c =>
    if refTimeoutDue .reference s then fadeReference c s
    else if refTimeoutDue .fading s then loseReference c s
    else s
  | none => s

/-! ## Tilt record -/

/-- A well-formed TILT frame updates the record (R12). -/
def takeTilt (rep : Int) (s : State) : State :=
  let s := { s with tilt := ⟨clampInt (-1200) 1200 rep, some s.now.ms, true⟩ }
  if 1200 < rep.natAbs then latchHere .tiltRange none s else s

/-- The fresh record's age exceeds P_TILT_TMO (R13). -/
def tiltDue (s : State) : Bool :=
  s.tilt.fresh &&
  (match s.tilt.arrival with
   | some t => s.params.tiltTmo < age s.now.ms t
   | none => false)

/-- The expiry of the tilt record (R13). -/
def tiltExpiry (s : State) : State :=
  if tiltDue s then latchHere .tiltStale none { s with tilt := { s.tilt with fresh := false } } else s

/-- A PARAM_WRITE of P_TILT_TMO judges the record at once against the new value (R13): older than it, a fresh record
goes stale with TILT_STALE; not older, the record is fresh, also one that was stale (log 37). -/
def judgeTilt (s : State) : State :=
  match s.tilt.arrival with
  | none => s
  | some t =>
    if s.params.tiltTmo < age s.now.ms t then tiltExpiry s
    else { s with tilt := { s.tilt with fresh := true } }

/-! ## The commands -/

/-- STRIKE (R3): a malformed frame is dropped and counted; a well-formed one is forwarded by the table and
then handled. -/
def takeStrike (f : Arrival) (s : State) : State :=
  match parseStrike f.data with
  | none => dropMalformed s
  | some k => handleStrike k (forwardTaken .u clsStrike f s)

/-- TILT (R12). -/
def takeTiltFrame (f : Arrival) (s : State) : State :=
  match parseTilt f.data with
  | none => dropMalformed s
  | some rep => takeTilt rep (forwardTaken .u clsTilt f s)

def execStrike (f : Arrival) (s : State) : Host.Outcome State Fault Refusal := .next (takeStrike f s)

def execTilt (f : Arrival) (s : State) : Host.Outcome State Fault Refusal := .next (takeTiltFrame f s)

def execStrikeTimeout (c : BeamCode) (s : State) : Host.Outcome State Fault Refusal :=
  .next (strikeTimeout c s)

def execReferenceTimeout (s : State) : Host.Outcome State Fault Refusal := .next (referenceTimeout s)

def execFadingTimeout (s : State) : Host.Outcome State Fault Refusal := .next (fadingTimeout s)

def execTiltExpiry (s : State) : Host.Outcome State Fault Refusal := .next (tiltExpiry s)

end Sys2Proof.Machine
end

