-- ==== Sys2Proof/Machine/Chainage.lean ====
section
/-! DEFINITION. The line filters (R61 to R65) and the chainage unit (R66 to R72), with the commands
LINE_LEVEL_CHANGE, ACCEPTED_ODO_EDGE, ACCEPTED_DIR_CHANGE, ACCEPTED_DIG_CHANGE,
STOP_ACCEPTED_ACTIVE, STOP_RELEASE and HOLD_DISTANCE_EXPIRY. -/

namespace Sys2Proof.Machine

/-! ## Chainage -/

/-- Movement of an edge: millimetres moved and the remainder (R67). -/
def edgeMove (s : State) : Nat × Nat :=
  let total := s.params.odoScale + s.chain.r
  (total / 1000, total % 1000)

/-- The unclamped result of an edge (R68). -/
def edgeResult (forward : Bool) (s : State) : Int :=
  let m : Int := (edgeMove s).1
  if forward then s.chain.s + m else s.chain.s - m

/-- The edge reaches or passes the limit it moves towards (R68). -/
def edgeLimited (forward : Bool) (s : State) : Bool :=
  if forward then (chainageMax : Int) ≤ edgeResult forward s else edgeResult forward s ≤ 0

/-- The chainage unit after an edge: chainage clamped, remainder 0 beyond a limit, boundary index (R67, R68). -/
def moveChain (forward : Bool) (s : State) : Chain :=
  let x := edgeResult forward s
  let s' := (clampInt 0 chainageMax x).toNat
  let r' := if x < 0 ∨ (chainageMax : Int) < x then 0 else (edgeMove s).2
  { s.chain with s := s', r := r', n := s' / s.params.traceStep }

/-- Step 1 of R69: movement, chainage, remainder, boundary index, CHAINAGE_LIMIT. -/
def moveEdge (forward : Bool) (s : State) : State :=
  let limited := edgeLimited forward s
  let s := { s with chain := moveChain forward s }
  if limited then latchHere .chainageLimit none s else s

/-- Step 2 of R69: a pending takeover whose chainage has been reached (R49). -/
def checkTakeover (s : State) : State :=
  match s.store.takeover with
  | some t => if t ≤ s.chain.s then swapBanks s else s
  | none => s

/-- The boundaries a forward edge crosses, in increasing order: indexes above the one before the edge, up to
the one after it (R71). -/
def crossedBoundaries (nOld nNew step : Nat) : List Nat :=
  (List.range (nNew - nOld)).map (fun k => (nOld + 1 + k) * step)

/-- Step 3 of R69: each crossing, RECUT when at or below the high-water mark held before the edge (R71). -/
def crossBoundaries (nOld : Nat) (s : State) : State :=
  (crossedBoundaries nOld s.chain.n s.params.traceStep).foldl
    (fun t beta => crossing (beta ≤ s.chain.h) beta t) s

/-- Step 4 of R69: the high-water mark (R70). -/
def raiseMark (s : State) : State :=
  { s with chain := { s.chain with h := max s.chain.h s.chain.s } }

/-- The HOLD distance counter after a movement: it stops at 10,000,000 (R72). -/
def holdDistanceAfter (m : Nat) (s : State) : Nat := min 10000000 (s.chain.dH + m)

/-- The comparison an edge makes: a counter above P_HOLD_DIST hands on the HOLD distance expiry, which moves HOLD to
SUSPENDED (R72, R86). -/
def compareHoldDistance (s : State) : State :=
  if s.params.holdDist < s.chain.dH then reportSuspend s else s

/-- Step 5 of R69: in HOLD the movement is added, whichever the direction and before the clamp, and compared
(R72). -/
def addHoldDistance (m : Nat) (s : State) : State :=
  if s.ctl.state = .hold then
    compareHoldDistance { s with chain := { s.chain with dH := holdDistanceAfter m s } }
  else s

/-- An accepted ODO edge taken while a run is open, its effects in the order of R69. -/
def countEdge (forward : Bool) (s : State) : State :=
  let nOld := s.chain.n
  let m := (edgeMove s).1
  let s := checkTakeover (moveEdge forward s)
  let s := if forward then raiseMark (crossBoundaries nOld s) else s
  addHoldDistance m s

/-- An accepted ODO edge: counted when a run is open (R67), and handed to a running test (R63, R137). -/
def odoEdge (forward : Bool) (s : State) : State :=
  endTest .travel (if s.run.isOpen then countEdge forward s else s)

/-! ## Lines -/

def lineOf (s : State) : Line → LineFilter
  | .odo => s.lines.odo
  | .dir => s.lines.dir
  | .dig => s.lines.dig
  | .stop => s.lines.stop

def setLine (l : Line) (f : LineFilter) (s : State) : State :=
  { s with lines := match l with
    | .odo => { s.lines with odo := f }
    | .dir => { s.lines with dir := f }
    | .dig => { s.lines with dig := f }
    | .stop => { s.lines with stop := f } }

/-- The state a level stands for: STOP is ACTIVE at the low level, the others at the high level (section
4.1). -/
def levelActive (l : Line) (high : Bool) : Bool :=
  match l with
  | .odo | .dir | .dig => high
  | .stop => !high

/-- The direction of an edge, from the accepted state of DIR (R64). -/
def edgeForward (s : State) : Bool :=
  match s.params.dirPol with
  | .normal => !s.lines.dir.active
  | .inverted => s.lines.dir.active

/-- An accepted change of ODO to a state is an edge P_ODO_EDGE selects (R63). -/
def edgeSelected (active : Bool) (s : State) : Bool :=
  match s.params.odoEdge with
  | .rising => active
  | .falling => !active
  | .both => true

/-- The candidate of a line is accepted: the accepted state changes, the candidate is absent, and the change
is handed on (R61, R63, R65). DIR and DIG are read where they are needed; the release of STOP changes no
state by itself. -/
def acceptLine (l : Line) (s : State) : State :=
  let f := lineOf s l
  let s := setLine l { f with active := !f.active, since := none } s
  match l with
  | .odo => if edgeSelected (!f.active) s then odoEdge (edgeForward s) s else s
  | .dir => s
  | .dig => s
  | .stop => if f.active then s else trip s

/-- Microseconds from one moment to a later one (R61). -/
def elapsedUs (now since : Clock) : Nat := age now.ms since.ms * 1000 + now.us - since.us

/-- The candidate that began at a moment has held for the line's filter time: ODO to 1 µs, the others on the
millisecond count (R61). -/
def filterPassed (l : Line) (since : Clock) (s : State) : Bool :=
  match l with
  | .odo => s.params.odoFilt ≤ elapsedUs s.now since
  | .dir => s.params.dirFilt ≤ age s.now.ms since.ms
  | .dig => s.params.digFilt ≤ age s.now.ms since.ms
  | .stop => s.params.stopFilt ≤ age s.now.ms since.ms

/-- A candidate of the line is held and its filter time has passed. -/
def filterDue (l : Line) (s : State) : Bool :=
  match (lineOf s l).since with
  | some t => filterPassed l t s
  | none => false

/-- The expiry of a line's filter time (R61). -/
def filterExpiry (l : Line) (s : State) : State := if filterDue l s then acceptLine l s else s

/-- A line whose level differs from the accepted state with no candidate held starts one (R61, R62). An ODO
filter time of 0 accepts the change at the moment it occurs. -/
def startCandidate (l : Line) (s : State) : State :=
  let f := lineOf s l
  if levelActive l f.high ≠ f.active ∧ f.since.isNone then
    let s := setLine l { f with since := some s.now } s
    if l = .odo ∧ s.params.odoFilt = 0 then acceptLine l s else s
  else s

/-- A change of the level at a line (R61): back to the accepted state discards the candidate, away from it
starts one. A return taken at the very moment at which the candidate completes its filter time, and before the
expiry, discards it too (log 33). -/
def lineLevelChange (l : Line) (high : Bool) (s : State) : State :=
  let f := lineOf s l
  if levelActive l high = f.active then setLine l { f with high := high, since := none } s
  else startCandidate l (setLine l { f with high := high } s)

/-- An accepted ODO edge due now would, in HOLD, carry the HOLD distance counter above P_HOLD_DIST (R72). -/
def holdDistanceDue (s : State) : Bool :=
  filterDue .odo s && edgeSelected (!s.lines.odo.active) s && s.run.isOpen && s.ctl.state = .hold
    && s.params.holdDist < holdDistanceAfter (edgeMove s).1 s

/-! ## The commands -/

def execLineLevelChange (l : Line) (high : Bool) (s : State) : Host.Outcome State Fault Refusal :=
  .next (lineLevelChange l high s)

/-- ACCEPTED_ODO_EDGE: the ODO filter expires (R61, R63, R69). -/
def execAcceptedOdoEdge (s : State) : Host.Outcome State Fault Refusal := .next (filterExpiry .odo s)

def execAcceptedDirChange (s : State) : Host.Outcome State Fault Refusal := .next (filterExpiry .dir s)

def execAcceptedDigChange (s : State) : Host.Outcome State Fault Refusal := .next (filterExpiry .dig s)

/-- STOP_ACCEPTED_ACTIVE: the STOP filter expires on an ACTIVE candidate (R65, R91). -/
def execStopAcceptedActive (s : State) : Host.Outcome State Fault Refusal :=
  .next (if s.lines.stop.active then s else filterExpiry .stop s)

/-- STOP_RELEASE: the STOP filter expires on an INACTIVE candidate (R65). -/
def execStopRelease (s : State) : Host.Outcome State Fault Refusal :=
  .next (if s.lines.stop.active then filterExpiry .stop s else s)

/-- HOLD_DISTANCE_EXPIRY: the edge that carries the counter above P_HOLD_DIST, taken whole (R69, R72, R86). At any other
moment the expiry does not exist and nothing changes: a P_HOLD_DIST lowered below a d_H already held waits for the
next edge (log 4). -/
def execHoldDistanceExpiry (s : State) : Host.Outcome State Fault Refusal :=
  .next (if holdDistanceDue s then filterExpiry .odo s else s)

end Sys2Proof.Machine
end

