-- ==== Sys2Proof/Machine/Ticks.lean ====
section
/-! DEFINITION. What the channels and the trace do at an output tick (R113, R114, R116, R117, R119, R120,
R153), the output tick generator (R121, R122), with the commands OUTPUT_TICK, SYNC_TIMEOUT and SYNC. -/

namespace Sys2Proof.Machine

/-! ## The channels at a tick -/

/-- The decayed magnitude of a demand, rounded toward zero (R117). -/
def decayed (u : Nat) (p : Params) : Nat := u * (10000 - p.decay) / 10000

/-- A held demand decays at a stale tick in AUTO; below P_UMIN or at 0 it ends at NEUTRAL with
OUTPUT_DECAYED; the demand memory follows (R105, R117). -/
def decayHeld (s : State) : State :=
  match s.depth.held with
  | .demand d u =>
    let v := decayed u s.params
    if v = 0 ∨ v < s.params.umin then
      setMemory 0 (latchHere .outputDecayed (reference s) (holdDepth .neutral s))
    else setMemory (match d with | .raise => (v : Int) | .lower => -(v : Int)) (holdDepth (.demand d v) s)
  | .neutral => s
  | .test _ _ => s

/-- A stale tick of the DEPTH channel: counted and decayed in AUTO, then the held value is emitted (R116,
R117). -/
def staleDepth (s : State) : State :=
  emitDepth (if s.ctl.state = .auto then decayHeld (count .staleTicks 1 s) else s)

/-- A fresh pending value is taken as the held value and emitted (R113). -/
def takeDepth (s : State) : State :=
  emitDepth { s with depth := { s.depth with
    held := s.depth.waiting.getD s.depth.held, waiting := none, fresh := false } }

/-- The DEPTH channel at an output tick, before the emitted mark is cleared. -/
def depthAtTick (s : State) : State :=
  if silenced s then s
  else if s.ctl.state = .tripped then emitDepth s
  else if depthImmediate s then (if s.depth.emitted then s else staleDepth s)
  else if s.depth.fresh then takeDepth s
  else staleDepth s

/-- Every output tick clears the emitted mark after the channel has dealt with it (R114). -/
def depthTick (s : State) : State :=
  let s := depthAtTick s
  { s with depth := { s.depth with emitted := false } }

/-- A stale tick of the TRAVEL channel (R116). -/
def staleTravel (s : State) : State :=
  emitTravel (if s.ctl.state = .auto then count .staleTicks 1 s else s)

def takeTravel (s : State) : State :=
  emitTravel { s with travel := { s.travel with
    held := s.travel.waiting.getD s.travel.held, waiting := none, fresh := false } }

def travelAtTick (s : State) : State :=
  if s.ctl.state = .tripped then emitTravel s
  else match s.params.modeTravel with
    | .immediate => if s.travel.emitted then s else staleTravel s
    | .synchronous => if s.travel.fresh then takeTravel s else staleTravel s

def travelTick (s : State) : State :=
  let s := travelAtTick s
  { s with travel := { s.travel with emitted := false } }

/-- A tick handed to the DEPTH channel, the TRAVEL channel and the trace's streaming, in that order (R121,
log 12). -/
def deliverTick (s : State) : State := streamTick (travelTick (depthTick s))

/-! ## The generator -/

/-- An internal tick is due: INTERNAL or FALLBACK mode, and the moment of the next tick has come (R121), or a SYNC
frame took FALLBACK to SYNC at that very moment and the internal tick is still to be made (R122). -/
def tickDue (s : State) : Bool :=
  s.tick.owed || s.tick.mode ≠ .syncFrames && reached s.tick.lastTick s.tick.nextTick s.now.ms

/-- The moment of a tick is recorded; the next internal tick falls P_TICK after it (R121). -/
def markTick (s : State) : State :=
  { s with tick := { s.tick with
      lastTick := s.now.ms, nextTick := later s.now.ms s.params.tick } }

/-- OUTPUT_TICK (R121). -/
def outputTick (s : State) : State :=
  if tickDue s then
    let s := markTick s
    deliverTick { s with tick := { s.tick with owed := false } }
  else s

/-- A SYNC frame taken from Port D: in SYNC and FALLBACK mode a tick that restarts the timeout and leaves the
mode SYNC; in INTERNAL mode nothing (R122). An internal tick of FALLBACK that falls together with the frame stays
due, so that the two give two ticks in either order (R122, log 38). -/
def takeSync (s : State) : State :=
  match s.tick.mode with
  | .internalTicks => s
  | .syncFrames | .fallback =>
    let owed := tickDue s
    let s := markTick s
    deliverTick { s with tick := { s.tick with mode := .syncFrames, syncSince := s.now.ms, owed := owed } }

/-- The SYNC timeout is due (R122). -/
def syncDue (s : State) : Bool :=
  s.tick.mode = .syncFrames && s.params.syncTmo < age s.now.ms s.tick.syncSince

/-- SYNC_TIMEOUT: FALLBACK, a tick at that moment, SYNC_LOST (R122). -/
def syncTimeout (s : State) : State :=
  if syncDue s then
    let s := markTick s
    latchHere .syncLost none (deliverTick { s with tick := { s.tick with mode := .fallback } })
  else s

/-! ## The commands -/

def execOutputTick (s : State) : Host.Outcome State Fault Refusal := .next (outputTick s)

def execSyncTimeout (s : State) : Host.Outcome State Fault Refusal := .next (syncTimeout s)

/-- SYNC: forwarded by the table, then taken by the tick generator (R160, R166). -/
def execSync (f : Arrival) (s : State) : Host.Outcome State Fault Refusal :=
  .next (takeSync (forwardTaken .d clsSync f s))

end Sys2Proof.Machine
end

