-- ==== Sys2Proof/Machine/ValveTest.lean ====
section
/-! DEFINITION. The valve deadband test: its staircase (R134, R135), the no-beam timeout (R136), the commands
DWELL_CLEAR_MOMENT, STEP_TIMER_EXPIRY, NO_BEAM_TIMEOUT and the requests TEST_START, TEST_ABORT,
TEST_RESULT, TEST_APPLY (R133, R137, R140, R141). -/

namespace Sys2Proof.Machine

/-! ## The staircase -/

/-- A step current written: test value emitted at once, timer set to P_VT_PERIOD after this moment (R134,
R135). -/
def writeStep (t : TestRun) (current : Nat) (s : State) : State :=
  let s := { s with test := { s.test with
    phase := .stepping t current (later s.now.ms s.params.vtPeriod) s.now.ms } }
  writeDepth (.test t.dir current) s

/-- The dwell-clear moment of a WAITING test has come (R120, R134). -/
def dwellDue (s : State) : Bool :=
  match s.test.phase with
  | .waiting t => dwellClear t.dir s
  | .idle | .stepping _ _ _ _ => false

/-- The first step at the dwell-clear moment; with P_VT_START above P_VT_MAX the test ends NOT_FOUND (R134). -/
def firstStep (s : State) : State :=
  match s.test.phase with
  | .waiting t =>
    if dwellClear t.dir s then
      if s.params.vtMax < s.params.vtStart then endTest .notFound s
      else writeStep t s.params.vtStart s
    else s
  | .idle | .stepping _ _ _ _ => s

/-- The step timer has expired (R135). -/
def stepDue (s : State) : Bool :=
  match s.test.phase with
  | .stepping _ _ timer set => reached set timer s.now.ms
  | .idle | .waiting _ => false

/-- The judgement of a step at its expiry (R135). The test beam's b_last is present while the test runs,
since a move to LOST ends the test; in a state without it, reached by no run, there is no movement (log 16). -/
def judgeStep (s : State) : State :=
  match s.test.phase with
  | .stepping t i _ _ =>
    let moved : Int := match (beam s t.beam).accepted with
      | some h => movement t h.b
      | none => 0
    if (s.params.vtMove : Int) ≤ moved then endTest .found s
    else if (s.params.vtMove : Int) ≤ -moved then endTest .wrongDirection s
    else if i + s.params.vtStep ≤ s.params.vtMax then writeStep t (i + s.params.vtStep) s
    else endTest .notFound s
  | .idle | .waiting _ => s

def stepTimerExpiry (s : State) : State := if stepDue s then judgeStep s else s

/-- The no-beam timeout is due (R136). -/
def noBeamDue (s : State) : Bool :=
  match testRun s with
  | some t => s.params.vtNostrike < age s.now.ms t.lastUsable
  | none => false

def noBeamTimeout (s : State) : State := if noBeamDue s then endTest .noBeam s else s

/-- A PARAM_WRITE of P_VT_MAX below the present step current ends the test NOT_FOUND (R135). -/
def checkMax (s : State) : State :=
  match s.test.phase with
  | .stepping _ i _ _ => if s.params.vtMax < i then endTest .notFound s else s
  | .idle | .waiting _ => s

/-! ## The requests -/

/-- A direction other than RAISE and LOWER has none (R133, R198). -/
def dirOfByte (b : Byte) : Option Dir :=
  match b.toNat with
  | 1 => some .raise
  | 2 => some .lower
  | _ => none

/-- The test beam: the reference, else the lowest-code entry in TRACKING or ESTABLISHED (R133). -/
def chooseTestBeam (s : State) : Option BeamCode :=
  match reference s with
  | some c => some c
  | none => allBeams.find?
      (fun c => (beam s c).state = .tracking || (beam s c).state = .established)

/-- A test started on a beam whose height is b0; its first step is written within the start when the
dwell-clear moment is the present one (R133, R134). That is so also exactly P_DWELL after the opposite direction's last
frame, where R134 speaks of more than P_DWELL (R120, R123, log 41). -/
def startTest (d : Dir) (c : BeamCode) (b0 : Int) (s : State) : State :=
  let s := { s with test := { s.test with phase := .waiting ⟨d, c, b0, s.now.ms, s.now.ms⟩ } }
  firstStep (enterTest s)

/-- TEST_START, its checks in the order of R133. A reference in FADING always fails the last (log 36). -/
def testStart (body : List Byte) (s : State) : Answer :=
  if s.ctl.state ≠ .standby ∧ s.ctl.state ≠ .manual then refuse .state s
  else
    match dirOfByte (body.getD 0 0) with
    | none => refuse .range s
    | some d =>
      if s.params.vtMax < s.params.vtStart then refuse .range s
      else
        match chooseTestBeam s with
        | none => refuse .noData s
        | some c =>
          match (beam s c).accepted with
          | none => refuse .noData s
          | some h =>
            if takenFresh (beam s c) s then
              done (beamByte c :: signed2 h.b) (startTest d c h.b s)
            else refuse .noData s

/-- TEST_ABORT (R137). -/
def testAbort (s : State) : Answer :=
  if testRunning s then done [] (endTest .request s) else refuse .state s

def outcomeCode : TestOutcome → Nat
  | .none => 0
  | .found => 1
  | .notFound => 2
  | .wrongDirection => 3
  | .travel => 4
  | .noBeam => 5
  | .offColumn => 6
  | .request => 7
  | .stop => 8
  | .override => 9

def phaseCode : TestPhase → Nat
  | .idle => 0
  | .waiting _ => 1
  | .stepping _ _ _ _ => 2

/-- The present step current and the test beam's b_last, while the state is STEPPING (R140). -/
def presentStep (s : State) : Option Nat × Option Int :=
  match s.test.phase with
  | .stepping t i _ _ => (some i, (beam s t.beam).accepted.map (·.b))
  | .idle | .waiting _ => (none, none)

/-- The body of the TEST_RESULT reply (R140, R198). -/
def testResultBody (s : State) : List Byte :=
  let r := s.test.result
  let p := presentStep s
  [byte (outcomeCode r.outcome),
   presence [r.dir.isSome, r.beam.isSome, r.current.isSome, r.movement.isSome, r.duration.isSome,
     p.1.isSome, p.2.isSome],
   byte (dirCode r.dir), (r.beam.map beamByte).getD 0]
  ++ bytes2 (r.current.getD 0) ++ signed2 (r.movement.getD 0) ++ bytes4 (r.duration.getD 0)
  ++ [byte (phaseCode s.test.phase)] ++ bytes2 (p.1.getD 0) ++ signed2 (p.2.getD 0)

/-- TEST_RESULT (R140). -/
def testResult (s : State) : Answer := done (testResultBody s) s

/-- A map with its lowest current replaced (R141). -/
def applyCurrent (i : Nat) : List MapPoint → List MapPoint
  | [] => []
  | p :: rest => { p with i := i } :: rest

def setValveMap (d : Dir) (m : List MapPoint) (s : State) : State :=
  { s with store := match d with
    | .raise => { s.store with raiseMap := some m }
    | .lower => { s.store with lowerMap := some m } }

/-- TEST_APPLY, its checks in the order of R141. A record whose outcome is FOUND holds a direction and a
current (R132), and a present map holds two points (R124). -/
def testApply (s : State) : Answer :=
  if s.ctl.state = .auto ∨ s.ctl.state = .hold ∨ s.ctl.state = .test then refuse .state s
  else
    match s.test.result.outcome, s.test.result.dir, s.test.result.current with
    | .found, some d, some i =>
      match valveMap d s with
      | none => refuse .noData s
      | some m =>
        if i = 0 ∨ ((m.getD 1 ⟨0, 0⟩).i < i) then refuse .range s
        else done (bytes2 i) (setValveMap d (applyCurrent i m) s)
    | _, _, _ => refuse .range s

/-! ## The commands -/

/-- DWELL_CLEAR_MOMENT (R134). -/
def execDwellClearMoment (s : State) : Host.Outcome State Fault Refusal := .next (firstStep s)

/-- STEP_TIMER_EXPIRY (R135). -/
def execStepTimerExpiry (s : State) : Host.Outcome State Fault Refusal := .next (stepTimerExpiry s)

/-- NO_BEAM_TIMEOUT (R136). -/
def execNoBeamTimeout (s : State) : Host.Outcome State Fault Refusal := .next (noBeamTimeout s)

def execTestStart (r : Request) (s : State) : Host.Outcome State Fault Refusal :=
  .next (answerRequest codeTestStart 1 r testStart s)

def execTestAbort (r : Request) (s : State) : Host.Outcome State Fault Refusal :=
  .next (answerRequest codeTestAbort 0 r (fun _ => testAbort) s)

def execTestResult (r : Request) (s : State) : Host.Outcome State Fault Refusal :=
  .next (answerRequest codeTestResult 0 r (fun _ => testResult) s)

def execTestApply (r : Request) (s : State) : Host.Outcome State Fault Refusal :=
  .next (answerRequest codeTestApply 0 r (fun _ => testApply) s)

end Sys2Proof.Machine
end

