-- ==== Sys2Proof/Machine/Parameters.lean ====
section
/-! DEFINITION. The parameter set: identifiers, ranges and codes (R176, R199), PARAM_READ, and PARAM_WRITE
with the effects that happen at the write (R177, R178). -/

namespace Sys2Proof.Machine

/-- What a parameter holds: an integer of a range, or one of n named values coded 0 to n − 1. -/
inductive ParamKind where
  | numeric (lo hi : Nat)
  | enumerated (n : Nat)
deriving DecidableEq, Repr

/-- The parameters and their ranges; identifiers 0 and 49 to 255 are not defined (R199). -/
def paramKind (id : Nat) : Option ParamKind :=
  match id with
  | 1 => some (.numeric 5 50)
  | 2 => some (.numeric 5000 40000)
  | 3 => some (.numeric 10 2000)
  | 4 => some (.numeric 2 8)
  | 5 => some (.numeric 50 2000)
  | 6 => some (.numeric 100 2000)
  | 7 => some (.numeric 2 16)
  | 8 => some (.numeric 20 500)
  | 9 => some (.numeric 4 32)
  | 10 => some (.numeric 1 100)
  | 11 => some (.numeric 0 1)
  | 12 => some (.numeric 0 20000)
  | 13 => some (.numeric 1000 500000)
  | 14 => some (.enumerated 3)
  | 15 => some (.enumerated 2)
  | 16 => some (.numeric 0 5000)
  | 17 => some (.numeric 1 100)
  | 18 => some (.numeric 1 100)
  | 19 => some (.numeric 1 100)
  | 20 => some (.numeric 0 200)
  | 21 => some (.numeric 1 1000)
  | 22 => some (.numeric 0 5000)
  | 23 => some (.numeric 1000 10000)
  | 24 => some (.numeric 50 10000)
  | 25 => some (.numeric 0 1000)
  | 26 => some (.numeric 0 2000)
  | 27 => some (.numeric 0 1000)
  | 28 => some (.numeric 0 10000)
  | 29 => some (.numeric 0 10000)
  | 30 => some (.numeric 10 500)
  | 31 => some (.enumerated 2)
  | 32 => some (.numeric 20 1000)
  | 33 => some (.enumerated 2)
  | 34 => some (.enumerated 2)
  | 35 => some (.numeric 0 10000)
  | 36 => some (.numeric 50 1000)
  | 37 => some (.numeric 1 4095)
  | 38 => some (.enumerated 2)
  | 39 => some (.enumerated 3)
  | 40 => some (.numeric 1 8)
  | 41 => some (.numeric 1 65535)
  | 42 => some (.enumerated 2)
  | 43 => some (.numeric 0 2500)
  | 44 => some (.numeric 1 50)
  | 45 => some (.numeric 100 2000)
  | 46 => some (.numeric 5 200)
  | 47 => some (.numeric 0 2500)
  | 48 => some (.numeric 200 5000)
  | _ => none

/-- The run-fixed parameters: P_PITCH, P_MAST, P_ODO_SCALE, P_TRACE_STEP (R177). -/
def runFixed (id : Nat) : Bool := id = 1 || id = 2 || id = 13 || id = 36

def odoEdgeSelCode : OdoEdgeSel → Nat
  | .rising => 0
  | .falling => 1
  | .both => 2

def dirPolarityCode : DirPolarity → Nat
  | .normal => 0
  | .inverted => 1

def tickSourceCode : TickSource → Nat
  | .internalTicks => 0
  | .syncFrames => 1

def updateModeCode : UpdateMode → Nat
  | .immediate => 0
  | .synchronous => 1

def gateSourceCode : GateSource → Nat
  | .line => 0
  | .software => 1

def streamModeCode : StreamMode → Nat
  | .off => 0
  | .burst => 1
  | .intermittent => 2

def actionCode : Action → Nat
  | .pass => 0
  | .block => 1

/-- The value held, enumerated values as codes (R198). -/
def readParam (id : Nat) (p : Params) : Option Nat :=
  match id with
  | 1 => some p.pitch
  | 2 => some p.mast
  | 3 => some p.jump
  | 4 => some p.jumpn
  | 5 => some p.tiltTmo
  | 6 => some p.strikeTmo
  | 7 => some p.acq
  | 8 => some p.pair
  | 9 => some p.ofsN
  | 10 => some p.ofsTol
  | 11 => some p.autoHandover
  | 12 => some p.holdDist
  | 13 => some p.odoScale
  | 14 => some (odoEdgeSelCode p.odoEdge)
  | 15 => some (dirPolarityCode p.dirPol)
  | 16 => some p.odoFilt
  | 17 => some p.dirFilt
  | 18 => some p.digFilt
  | 19 => some p.stopFilt
  | 20 => some p.window
  | 21 => some p.gain
  | 22 => some p.umin
  | 23 => some p.umax
  | 24 => some p.slew
  | 25 => some p.dwell
  | 26 => some p.eSlow
  | 27 => some p.kTravel
  | 28 => some p.lMin
  | 29 => some p.lHold
  | 30 => some p.tick
  | 31 => some (tickSourceCode p.tickSrc)
  | 32 => some p.syncTmo
  | 33 => some (updateModeCode p.modeDepth)
  | 34 => some (updateModeCode p.modeTravel)
  | 35 => some p.decay
  | 36 => some p.traceStep
  | 37 => some p.traceHigh
  | 38 => some (gateSourceCode p.traceGate)
  | 39 => some (streamModeCode p.stream)
  | 40 => some p.streamK
  | 41 => some p.rejectThresh
  | 42 => some (actionCode p.fwdDefault)
  | 43 => some p.vtStart
  | 44 => some p.vtStep
  | 45 => some p.vtPeriod
  | 46 => some p.vtMove
  | 47 => some p.vtMax
  | 48 => some p.vtNostrike
  | _ => none

/-- The parameter set with one value replaced; an enumerated value is given by its code. -/
def storeParam (id v : Nat) (p : Params) : Params :=
  match id with
  | 1 => { p with pitch := v }
  | 2 => { p with mast := v }
  | 3 => { p with jump := v }
  | 4 => { p with jumpn := v }
  | 5 => { p with tiltTmo := v }
  | 6 => { p with strikeTmo := v }
  | 7 => { p with acq := v }
  | 8 => { p with pair := v }
  | 9 => { p with ofsN := v }
  | 10 => { p with ofsTol := v }
  | 11 => { p with autoHandover := v }
  | 12 => { p with holdDist := v }
  | 13 => { p with odoScale := v }
  | 14 => { p with odoEdge := if v = 0 then .rising else if v = 1 then .falling else .both }
  | 15 => { p with dirPol := if v = 0 then .normal else .inverted }
  | 16 => { p with odoFilt := v }
  | 17 => { p with dirFilt := v }
  | 18 => { p with digFilt := v }
  | 19 => { p with stopFilt := v }
  | 20 => { p with window := v }
  | 21 => { p with gain := v }
  | 22 => { p with umin := v }
  | 23 => { p with umax := v }
  | 24 => { p with slew := v }
  | 25 => { p with dwell := v }
  | 26 => { p with eSlow := v }
  | 27 => { p with kTravel := v }
  | 28 => { p with lMin := v }
  | 29 => { p with lHold := v }
  | 30 => { p with tick := v }
  | 31 => { p with tickSrc := if v = 0 then .internalTicks else .syncFrames }
  | 32 => { p with syncTmo := v }
  | 33 => { p with modeDepth := if v = 0 then .immediate else .synchronous }
  | 34 => { p with modeTravel := if v = 0 then .immediate else .synchronous }
  | 35 => { p with decay := v }
  | 36 => { p with traceStep := v }
  | 37 => { p with traceHigh := v }
  | 38 => { p with traceGate := if v = 0 then .line else .software }
  | 39 => { p with stream := if v = 0 then .off else if v = 1 then .burst else .intermittent }
  | 40 => { p with streamK := v }
  | 41 => { p with rejectThresh := v }
  | 42 => { p with fwdDefault := if v = 0 then .pass else .block }
  | 43 => { p with vtStart := v }
  | 44 => { p with vtStep := v }
  | 45 => { p with vtPeriod := v }
  | 46 => { p with vtMove := v }
  | 47 => { p with vtMax := v }
  | 48 => { p with vtNostrike := v }
  | _ => p

/-- The value to store and whether it was adjusted: to the nearer limit of the range (R177 step 4), and with
P_UMIN and P_UMAX kept in order (R177 step 5). -/
def adjustNumeric (id lo hi : Nat) (v : Int) (p : Params) : Nat :=
  let w := (clampInt lo hi v).toNat
  if id = 22 then min w p.umax
  else if id = 23 then max w p.umin
  else w

/-! ## Effects at the write -/

/-- A magnitude above the new P_UMAX takes P_UMAX (R106). -/
def clampDepthValue (umax : Nat) (v : DepthValue) : DepthValue :=
  match v with
  | .demand d u => .demand d (min u umax)
  | .neutral => .neutral
  | .test d i => .test d i

/-- P_UMAX: the demand memory and the DEPTH channel's pending and held demands are clamped (R106). -/
def clampDemands (s : State) : State :=
  let umax : Int := s.params.umax
  { s with
    ctl := { s.ctl with memory := clampInt (-umax) umax s.ctl.memory }
    depth := { s.depth with
      waiting := s.depth.waiting.map (clampDepthValue s.params.umax)
      held := clampDepthValue s.params.umax s.depth.held } }

/-- P_MODE_DEPTH: a change to IMMEDIATE with the fresh flag set emits the pending value at once; a silenced
channel discards it (R115). -/
def depthModeEffect (old : UpdateMode) (s : State) : State :=
  if old = .synchronous ∧ s.params.modeDepth = .immediate ∧ s.depth.fresh then
    if silenced s then { s with depth := { s.depth with waiting := none, fresh := false } }
    else takeDepth s
  else s

/-- P_MODE_TRAVEL: the same for the TRAVEL channel (R115). -/
def travelModeEffect (old : UpdateMode) (s : State) : State :=
  if old = .synchronous ∧ s.params.modeTravel = .immediate ∧ s.travel.fresh then takeTravel s else s

/-- P_TICK: in INTERNAL and FALLBACK the next internal tick is the last tick plus the new value, or this
moment when that has passed; in SYNC mode no timing changes (R121). -/
def tickEffect (s : State) : State :=
  if s.tick.mode = .syncFrames then s
  else
    let due := later s.tick.lastTick s.params.tick
    { s with tick := { s.tick with
        nextTick := if reached s.tick.lastTick due s.now.ms then s.now.ms else due } }

/-- P_TICK_SRC: a change enters SYNC mode with its timeout running from this moment, or INTERNAL mode with
the next tick P_TICK after it (R121). -/
def tickSourceEffect (old : TickSource) (s : State) : State :=
  match old, s.params.tickSrc with
  | .internalTicks, .syncFrames =>
    { s with tick := { s.tick with mode := .syncFrames, syncSince := s.now.ms } }
  | .syncFrames, .internalTicks =>
    { s with tick := { s.tick with
        mode := .internalTicks, nextTick := later s.now.ms s.params.tick, owed := false } }
  | .internalTicks, .internalTicks => s
  | .syncFrames, .syncFrames => s

/-- The effect that the owner's rule makes happen at the write, for a parameter just stored (R178). -/
def paramEffect (id : Nat) (old : Params) (s : State) : State :=
  match id with
  | 5 => judgeTilt s
  | 6 => expireAll s
  | 9 => mapBeams (fun e => { e with window := [] }) s
  | 16 => filterExpiry .odo s
  | 17 => filterExpiry .dir s
  | 18 => filterExpiry .dig s
  | 19 => filterExpiry .stop s
  | 23 => clampDemands s
  | 30 => tickEffect s
  | 31 => tickSourceEffect old.tickSrc s
  | 32 => syncTimeout s
  | 33 => depthModeEffect old.modeDepth s
  | 34 => travelModeEffect old.modeTravel s
  | 36 => { s with chain := { s.chain with n := s.chain.s / s.params.traceStep } }
  | 39 => burst s
  | 47 => checkMax s
  | 48 => noBeamTimeout s
  | _ => s

/-! ## The requests -/

/-- The body of a PARAM_READ or PARAM_WRITE reply: identifier and value (R198). -/
def paramBody (id : Byte) (v : Nat) : List Byte := id :: signed4 v

/-- PARAM_READ (R176). -/
def paramRead (body : List Byte) (s : State) : Answer :=
  let id := body.getD 0 0
  match readParam id.toNat s.params with
  | some v => done (paramBody id v) s
  | none => refuse .range s

/-- A value stored, with its effect at the write (R177, R178). -/
def carryWrite (id : Nat) (v : Nat) (s : State) : State :=
  paramEffect id s.params { s with params := storeParam id v s.params }

/-- PARAM_WRITE of a value, its checks in the order of R177. -/
def writeParam (id : Byte) (v : Int) (s : State) : Answer :=
  let n := id.toNat
  match paramKind n with
  | none => refuse .range s
  | some kind =>
    if runFixed n ∧ s.run.isOpen then refuse .state s
    else
      match kind with
      | .enumerated k =>
        if 0 ≤ v ∧ v < k then done (paramBody id v.toNat) (carryWrite n v.toNat s)
        else refuse .range s
      | .numeric lo hi =>
        let w := adjustNumeric n lo hi v s.params
        ⟨if (w : Int) = v then .ok else .clamped, paramBody id w, carryWrite n w s⟩

/-- PARAM_WRITE (R177, R198): identifier, then the value, signed 4 bytes. -/
def paramWrite (body : List Byte) (s : State) : Answer :=
  match body with
  | [id, a, b, c, d] => writeParam id (int4 a b c d) s
  | _ => refuse .malformed s

def execParamRead (r : Request) (s : State) : Host.Outcome State Fault Refusal :=
  .next (answerRequest codeParamRead 1 r paramRead s)

def execParamWrite (r : Request) (s : State) : Host.Outcome State Fault Refusal :=
  .next (answerRequest codeParamWrite 5 r paramWrite s)

end Sys2Proof.Machine
end

