-- ==== Sys2Proof/Machine/Tables.lean ====
section
/-! DEFINITION. The table load session (R44, R45, R52, R179 to R182) and READ_ENTRY (R60, R126, R183): the
requests LOAD_BEGIN, LOAD_ENTRY, LOAD_COMMIT, LOAD_CANCEL and READ_ENTRY. -/

namespace Sys2Proof.Machine

/-- The kinds of R198. -/
def kindOfByte (b : Byte) : Option TableKind :=
  match b.toNat with
  | 0 => some .profile
  | 1 => some .tilt
  | 2 => some .valveRaise
  | 3 => some .valveLower
  | _ => none

def kindByte : TableKind → Byte
  | .profile => 0
  | .tilt => 1
  | .valveRaise => 2
  | .valveLower => 3

def setStore (p : ProfileStore) (s : State) : State := { s with store := p }

/-! ## LOAD_BEGIN -/

/-- A session opened with its staging emptied (R44, R179). -/
def openSession (k : TableKind) (p : ProfileStore) : ProfileStore :=
  match k with
  | .profile => { p with staging := emptyBank, session := some ⟨k, 0⟩ }
  | .tilt | .valveRaise | .valveLower => { p with shared := [], session := some ⟨k, 0⟩ }

/-- LOAD_BEGIN, its checks in the order of R179. -/
def loadBegin (body : List Byte) (s : State) : Answer :=
  match kindOfByte (body.getD 0 0) with
  | none => refuse .range s
  | some k =>
    if s.store.session.isSome then refuse .busy s
    else if k = .profile ∧ s.store.takeover.isSome then refuse .busy s
    else done (kindByte k :: bytes2 0) (setStore (openSession k s.store) s)

/-! ## LOAD_ENTRY -/

/-- The body length of an entry of a kind (R198). -/
def entryLength : TableKind → Nat
  | .profile => 11
  | .tilt => 2
  | .valveRaise => 4
  | .valveLower => 4

/-- The capacity of a kind (R180). -/
def capacity : TableKind → Nat
  | .profile => 256
  | .tilt => 25
  | .valveRaise => 8
  | .valveLower => 8

/-- Each present field of a profile entry lies in its range (R41, R45). -/
def profileEntryOk (e : ProfileEntry) : Bool :=
  e.start ≤ chainageMax && e.grade.natAbs ≤ 5000
    && (match e.step with | some d => d.natAbs ≤ 5000 | none => true)
    && (match e.cap with | some c => c ≤ 10000 | none => true)

/-- A profile entry's body; a clear presence bit gives an absent step or cap (R195, R198). -/
def parseProfileEntry (body : List Byte) : Option ProfileEntry :=
  match body with
  | [p, s0, s1, s2, s3, g0, g1, d0, d1, c0, c1] =>
    some ⟨word4 s0 s1 s2 s3, int2 g0 g1, if bitOf p 0 then some (int2 d0 d1) else none,
      if bitOf p 1 then some (word2 c0 c1) else none⟩
  | _ => none

/-- A tilt entry, in range (R15, R198). -/
def parseTiltEntry (body : List Byte) : Option StageEntry :=
  match body with
  | [c0, c1] => if (int2 c0 c1).natAbs ≤ 2000 then some (.tilt (int2 c0 c1)) else none
  | _ => none

/-- A valve point, in range (R124, R198). -/
def parsePoint (body : List Byte) : Option StageEntry :=
  match body with
  | [d0, d1, i0, i1] =>
    let p : MapPoint := ⟨word2 d0 d1, word2 i0 i1⟩
    if p.d ≤ 10000 ∧ 1 ≤ p.i ∧ p.i ≤ 2500 then some (.point p) else none
  | _ => none

/-- The store with one entry staged for a session of a kind, none when a field is out of range (R45, R180). -/
def stageEntry (k : TableKind) (body : List Byte) (p : ProfileStore) : Option ProfileStore :=
  match k with
  | .profile =>
    match parseProfileEntry body with
    | some e =>
      if profileEntryOk e then
        some { p with staging := { p.staging with entries := p.staging.entries ++ [e] } }
      else none
    | none => none
  | .tilt => (parseTiltEntry body).map fun e => { p with shared := p.shared ++ [e] }
  | .valveRaise | .valveLower => (parsePoint body).map fun e => { p with shared := p.shared ++ [e] }

/-- LOAD_ENTRY with a session open and a body of its kind's length (R180). -/
def loadEntry (sn : Session) (body : List Byte) (s : State) : Answer :=
  if capacity sn.kind ≤ sn.pointer then refuse .range s
  else
    match stageEntry sn.kind body s.store with
    | none => refuse .range s
    | some p =>
      done (bytes2 (sn.pointer + 1))
        (setStore { p with session := some ⟨sn.kind, sn.pointer + 1⟩ } s)

/-- LOAD_ENTRY: SEQUENCE with no session open, before its length is judged (R175, R180). -/
def takeLoadEntry (r : Request) (s : State) : State :=
  match s.store.session with
  | none => sendReply codeLoadEntry r (refuse .sequence (forwardRequest s.node codeLoadEntry r s))
  | some sn => answerRequest codeLoadEntry (entryLength sn.kind) r (loadEntry sn) s

/-! ## LOAD_COMMIT -/

def stagedTilt (l : List StageEntry) : List Int :=
  l.filterMap fun e => match e with | .tilt c => some c | .point _ => none

def stagedPoints (l : List StageEntry) : List MapPoint :=
  l.filterMap fun e => match e with | .point p => some p | .tilt _ => none

/-- Demands strictly increase and currents do not decrease (R124). -/
def pointsOrdered : List MapPoint → Bool
  | [] => true
  | [_] => true
  | a :: b :: rest => a.d < b.d && a.i ≤ b.i && pointsOrdered (b :: rest)

/-- The validation of a valve map (R124). -/
def mapValid (m : List MapPoint) : Bool :=
  2 ≤ m.length && m.head?.map (·.d) == some 0 && m.getLast?.map (·.d) == some 10000
    && pointsOrdered m

/-- The basis grade of a commit: the run's laser grade, or the profile's own first grade (R46). -/
def commitBasis (s : State) : Int :=
  if s.run.isOpen then s.run.grade else (s.store.staging.entries.head?.map (·.grade)).getD 0

/-- The validation of a staged profile against its basis grade and, with a run open, of the takeover
chainage (R45, R46, R48). -/
def profileValid (takeover : Nat) (s : State) : Bool :=
  let es := s.store.staging.entries
  es ≠ [] && es.head?.map (·.start) == some 0 && startsIncrease es
    && offsetsInRange (baseOffsets (commitBasis s) es)
    && (!s.run.isOpen || (s.chain.s < takeover && takeover ≤ chainageMax))

/-- The staging of a kind passes its validation (R181 step 3). -/
def stagingValid (k : TableKind) (takeover : Nat) (s : State) : Bool :=
  match k with
  | .profile => profileValid takeover s
  | .tilt => (stagedTilt s.store.shared).length = 25
  | .valveRaise | .valveLower => mapValid (stagedPoints s.store.shared)

/-- The STAGING bank with its basis grade and base offsets (R46). -/
def committedStaging (s : State) : Bank :=
  ⟨s.store.staging.entries, commitBasis s, baseOffsets (commitBasis s) s.store.staging.entries⟩

/-- A valid profile committed: swapped at once, or left pending with a run open (R47, R48). -/
def commitProfile (takeover : Nat) (s : State) : State :=
  let p := { s.store with staging := committedStaging s, session := none }
  if s.run.isOpen then setStore { p with takeover := some takeover } s
  else swapBanks (setStore p s)

/-- A valid table of another kind committed (R15, R124). -/
def commitTable (k : TableKind) (p : ProfileStore) : ProfileStore :=
  match k with
  | .profile => p
  | .tilt => { p with tiltTable := some (stagedTilt p.shared), session := none }
  | .valveRaise => { p with raiseMap := some (stagedPoints p.shared), session := none }
  | .valveLower => { p with lowerMap := some (stagedPoints p.shared), session := none }

/-- The LOAD_COMMIT reply body: kind, count, result, presence, takeover chainage (R181, R198). -/
def commitBody (k : TableKind) (cnt result : Nat) (takeover : Option Nat) : List Byte :=
  [kindByte k] ++ bytes2 cnt ++ [byte result, presence [takeover.isSome]]
    ++ bytes4 (takeover.getD 0)

/-- LOAD_COMMIT of a count and a takeover chainage, its checks in the order of R181. -/
def commitSession (cnt takeover : Nat) (s : State) : Answer :=
  match s.store.session with
  | none => refuse .sequence s
  | some sn =>
    if cnt ≠ sn.pointer then refuse .sequence s
    else if !stagingValid sn.kind takeover s then refuse .range s
    else
      match sn.kind with
      | .profile =>
        done (if s.run.isOpen then commitBody .profile cnt 2 (some takeover)
          else commitBody .profile cnt 1 none) (commitProfile takeover s)
      | .tilt | .valveRaise | .valveLower =>
        if s.ctl.state = .auto ∨ s.ctl.state = .hold ∨ s.ctl.state = .test then refuse .state s
        else done (commitBody sn.kind cnt 0 none) (setStore (commitTable sn.kind s.store) s)

def loadCommit (body : List Byte) (s : State) : Answer :=
  match body with
  | [c0, c1, t0, t1, t2, t3] => commitSession (word2 c0 c1) (word4 t0 t1 t2 t3) s
  | _ => refuse .malformed s

/-! ## LOAD_CANCEL -/

/-- The LOAD_CANCEL reply body; the pointer is present after a withdrawal (R52, R198). -/
def cancelBody (k : TableKind) (pointer : Option Nat) : List Byte :=
  [kindByte k, presence [pointer.isSome]] ++ bytes2 (pointer.getD 0)

/-- The kind of the open session. -/
def sessionKind (s : State) : Option TableKind := s.store.session.map (·.kind)

/-- LOAD_CANCEL of a kind (R52, R182). The STAGING bank that a withdrawal leaves uncommitted keeps the basis grade and
base offsets of its commit, which no command reads before the next commit replaces them (log 32). -/
def cancelKind (k : TableKind) (s : State) : Answer :=
  if k = .profile ∧ s.store.takeover.isSome then
    if s.store.session.isSome then refuse .busy s
    else
      let n := s.store.staging.entries.length
      done (cancelBody k (some n))
        (setStore { s.store with takeover := none, session := some ⟨.profile, n⟩ } s)
  else if sessionKind s = some k then
    done (cancelBody k none) (setStore { s.store with session := none } s)
  else refuse .sequence s

def loadCancel (body : List Byte) (s : State) : Answer :=
  match kindOfByte (body.getD 0 0) with
  | none => refuse .range s
  | some k => cancelKind k s

/-! ## READ_ENTRY -/

/-- The reply body for a profile entry (R60, R198). -/
def profileBody (idx : Nat) (e : ProfileEntry) (b : Int) (p : ProfileStore) : List Byte :=
  [kindByte .profile, presence [e.step.isSome, e.cap.isSome, p.takeover.isSome]]
    ++ bytes2 idx ++ bytes4 e.start ++ signed2 e.grade ++ signed2 (e.step.getD 0)
    ++ bytes2 (e.cap.getD 0) ++ signed4 b ++ bytes2 p.active.entries.length
    ++ signed2 p.active.basis ++ bytes4 (p.takeover.getD 0)

/-- An entry of the ACTIVE bank (R60). -/
def readProfile (idx : Nat) (s : State) : Answer :=
  let a := s.store.active
  if a.entries = [] then refuse .noData s
  else
    match a.entries[idx]? with
    | none => refuse .range s
    | some e => done (profileBody idx e (a.offsets.getD idx 0) s.store) s

/-- An entry of the tilt table (R183). -/
def readTiltEntry (idx : Nat) (s : State) : Answer :=
  match s.store.tiltTable with
  | none => refuse .noData s
  | some t =>
    if 24 < idx then refuse .range s
    else done ([kindByte .tilt] ++ bytes2 idx ++ signed2 (t.getD idx 0)) s

/-- A point of a valve map (R126). -/
def readPoint (k : TableKind) (m : Option (List MapPoint)) (idx : Nat) (s : State) : Answer :=
  match m with
  | none => refuse .noData s
  | some m =>
    match m[idx]? with
    | none => refuse .range s
    | some p => done ([kindByte k] ++ bytes2 idx ++ bytes2 p.d ++ bytes2 p.i ++ [byte m.length]) s

/-- READ_ENTRY (R183). -/
def readEntry (body : List Byte) (s : State) : Answer :=
  match body with
  | [k, i0, i1] =>
    match kindOfByte k with
    | none => refuse .range s
    | some .profile => readProfile (word2 i0 i1) s
    | some .tilt => readTiltEntry (word2 i0 i1) s
    | some .valveRaise => readPoint .valveRaise s.store.raiseMap (word2 i0 i1) s
    | some .valveLower => readPoint .valveLower s.store.lowerMap (word2 i0 i1) s
  | _ => refuse .malformed s

/-! ## The commands -/

def execLoadBegin (r : Request) (s : State) : Host.Outcome State Fault Refusal :=
  .next (answerRequest codeLoadBegin 1 r loadBegin s)

def execLoadEntry (r : Request) (s : State) : Host.Outcome State Fault Refusal :=
  .next (takeLoadEntry r s)

def execLoadCommit (r : Request) (s : State) : Host.Outcome State Fault Refusal :=
  .next (answerRequest codeLoadCommit 6 r loadCommit s)

def execLoadCancel (r : Request) (s : State) : Host.Outcome State Fault Refusal :=
  .next (answerRequest codeLoadCancel 1 r loadCancel s)

def execReadEntry (r : Request) (s : State) : Host.Outcome State Fault Refusal :=
  .next (answerRequest codeReadEntry 3 r readEntry s)

end Sys2Proof.Machine
end

