-- ==== Sys2Proof/Machine/RunRequests.lean ====
section
/-! DEFINITION. The run and mode requests: OPEN_RUN, CLOSE_RUN, BENCH, SET_DEPTH, SET_MODE AUTO and MANUAL,
RESUME, CLEAR_TRIP (R78 to R83, R87, R92), and the beam table's HANDOVER and ADOPT (R37, R38). -/

namespace Sys2Proof.Machine

/-! ## The run record -/

/-- The replies of OPEN_RUN, CLOSE_RUN and CLEAR_RUN carry the run number (R198). -/
def runNumberBody (s : State) : List Byte := bytes2 s.run.number

/-- The ACTIVE bank rebased to a laser grade (R53). -/
def rebased (g : Int) (b : Bank) : Bank := ⟨b.entries, g, baseOffsets g b.entries⟩

/-- OPEN_RUN carried out (R78): rebasing, run record, chainage unit (R66), trace numbering and clearing
(R156), demand memory, MANUAL with its entries (R76). -/
def openRun (start : Nat) (g : Int) (discard : Bool) (s : State) : State :=
  let t := if discard then clearedTrace s.trace else { s.trace with seqNo := 0 }
  let s := { s with
    store := { s.store with active := rebased g s.store.active }
    run := ⟨(s.run.number + 1) % 65536, true, g, 0, false, start⟩
    chain := ⟨start, 0, start, start / s.params.traceStep, s.chain.dH⟩
    trace := t }
  enterIdle .manual (setMemory 0 s)

/-- A profile, a tilt table and both valve maps are committed (R78 step 3). -/
def tablesLoaded (s : State) : Bool :=
  s.store.active.entries ≠ [] && s.store.tiltTable.isSome && s.store.raiseMap.isSome
    && s.store.lowerMap.isSome

/-- OPEN_RUN, its checks in the order of R78. -/
def takeOpenRun (start : Nat) (g : Int) (discard : Bool) (s : State) : Answer :=
  if s.ctl.state ≠ .standby then refuse .state s
  else if chainageMax < start ∨ 5000 < g.natAbs then refuse .range s
  else if !tablesLoaded s then refuse .state s
  else if 0 < unread s.trace ∧ discard = false then refuse .state s
  else if !offsetsInRange (baseOffsets g s.store.active.entries) then refuse .range s
  else
    let s := openRun start g discard s
    done (runNumberBody s) s

/-- The body of OPEN_RUN (R198): the discard-trace flag is set by any non-zero byte. -/
def openRunRequest (body : List Byte) (s : State) : Answer :=
  match body with
  | [c0, c1, c2, c3, g0, g1, d] => takeOpenRun (word4 c0 c1 c2 c3) (int2 g0 g1) (d ≠ 0) s
  | _ => refuse .malformed s

/-- The run closed and not benched, with D_set 0; number, grade and start are kept (R79, R95). -/
def endRun (s : State) : State :=
  { s with run := { s.run with isOpen := false, benched := false, dSet := 0 } }

/-- CLOSE_RUN (R79): pending takeover, handback frame from SUSPENDED, STANDBY with its entries. -/
def closeRun (s : State) : Answer :=
  if s.ctl.state = .manual ∨ s.ctl.state = .suspended then
    let s := releaseControl .standby (endRun (finishTakeover s))
    done (runNumberBody s) s
  else refuse .state s

/-! ## The depth setting -/

/-- D_set fixed and the run benched (R80, R81). -/
def setDepthSetting (d : Int) (s : State) : State :=
  { s with run := { s.run with dSet := d, benched := true } }

/-- The old reference leaves for TRACKING with its offset discarded; a fade time is kept (R39, log 28). -/
def dropReference (e : Beam) : Beam :=
  if isRef e then { e with state := .tracking, offset := none, window := [] } else e

/-- BENCH onto a beam that is not the reference: that beam becomes the reference with O = 0, every other
held offset is discarded, and the reference changes (R39, R30). -/
def benchBeam (c : BeamCode) (s : State) : State :=
  let s := mapBeams (fun e => dropEstablished (dropReference e)) s
  referenceChanged
    (setBeam c { beam s c with state := .reference, offset := some 0, window := [] } s)

/-- The entry's state allows BENCH (R39). -/
def benchable (e : Beam) : Bool :=
  e.state = .reference || e.state = .fading || e.state = .tracking || e.state = .established

/-- The offset the named beam will have after BENCH: its own for the reference, 0 for any other (R39). -/
def benchOffset (e : Beam) : Int := if isRef e then e.offset.getD 0 else 0

/-- The end of BENCH with a measured depth H through the named beam (R80). A run is open, so the ACTIVE bank
holds a profile; without one, in a state no run reaches, there is no target and the answer is NO_DATA (log
16). Forming T may latch TARGET_SATURATED, and the latch stands whatever the reply. -/
def finishBench (c : BeamCode) (h : Int) (s : State) : Answer :=
  match targetAt s.store.active s.chain.s with
  | none => refuse .noData s
  | some t =>
    let s := noteTarget s.chain.s s
    let d := h - t
    if d < 0 ∨ 60000 < d then refuse .range s
    else
      let s := if isRef (beam s c) then s else benchBeam c s
      done (signed4 d) (setDepthSetting d s)

/-- The checks of BENCH on the beam table (R39). A reference in FADING always fails the freshness test, also where a
raised P_STRIKE_TMO has made its age small enough for R18 (log 36). -/
def benchNamed (c : BeamCode) (s : State) : Answer :=
  let e := beam s c
  if !benchable e then refuse .state s
  else
    match depthThrough e (benchOffset e) s with
    | none => refuse .noData s
    | some h => if takenFresh e s then finishBench c h s else refuse .noData s

/-- BENCH (R80, R39, R195): a clear presence bit names no beam and means the reference. -/
def bench (body : List Byte) (s : State) : Answer :=
  if s.ctl.state ≠ .manual ∧ s.ctl.state ≠ .suspended then refuse .state s
  else if bitOf (body.getD 0 0) 0 then
    match beamOfByte (body.getD 1 0) with
    | none => refuse .range s
    | some c => benchNamed c s
  else
    match reference s with
    | none => refuse .noData s
    | some c => benchNamed c s

/-- SET_DEPTH of a depth (R81). -/
def setDepth (d : Int) (s : State) : Answer :=
  if s.ctl.state ≠ .manual ∧ s.ctl.state ≠ .suspended then refuse .state s
  else if (reference s).isNone then refuse .noData s
  else
    let v := clampInt 0 60000 d
    ⟨if v = d then .ok else .clamped, signed4 v, setDepthSetting v s⟩

def setDepthRequest (body : List Byte) (s : State) : Answer :=
  match body with
  | [a, b, c, d] => setDepth (int4 a b c d) s
  | _ => refuse .malformed s

/-! ## Modes -/

/-- The four conditions of SET_MODE AUTO and RESUME (R82): benched, an entry in REFERENCE, its measurement
present and fresh, a fresh tilt record. At the very reading at which the reference's fading is due its measurement
is stale, so the request taken first is refused there by R82, where R94 speaks of AUTO and then HOLD (log 34). At the
very reading at which the tilt record's expiry is due, but not yet taken, the record still counts as fresh (R13, log
39). -/
def autoReady (s : State) : Bool :=
  s.run.benched && s.tilt.fresh &&
  (match steadyReference s with
   | some c =>
     (depthThrough (beam s c) ((beam s c).offset.getD 0) s).isSome && freshBeam (beam s c) s
   | none => false)

/-- SET_MODE AUTO (R82). -/
def setModeAuto (s : State) : Answer :=
  if s.ctl.state = .manual ∧ autoReady s then done [] (enterAuto s) else refuse .state s

/-- SET_MODE MANUAL (R83). -/
def setModeManual (s : State) : Answer :=
  if s.ctl.state = .auto ∨ s.ctl.state = .hold ∨ s.ctl.state = .suspended then
    done [] (releaseControl .manual s)
  else refuse .state s

/-- SET_MODE of a mode other than MANUAL: 1 is AUTO, any other value is answered RANGE (R82, R198). -/
def takeModeAuto (body : List Byte) (s : State) : Answer :=
  if body.getD 0 0 = 1 then setModeAuto s else refuse .range s

/-- SET_MODE of mode MANUAL, code 0 (R83, R198). -/
def takeModeManual (body : List Byte) (s : State) : Answer :=
  if body.getD 0 0 = 0 then setModeManual s else refuse .range s

/-- RESUME (R87). -/
def resume (s : State) : Answer :=
  if s.ctl.state = .suspended ∧ autoReady s then done [] (enterAuto s) else refuse .state s

/-- The state a run's end or a cleared trip leads to: MANUAL with a run open, else STANDBY (R92). -/
def idleState (s : State) : CtlState := if s.run.isOpen then .manual else .standby

/-- CLEAR_TRIP (R92). -/
def clearTrip (s : State) : Answer :=
  if s.ctl.state ≠ .tripped ∨ s.lines.stop.active then refuse .state s
  else done [] (releaseControl (idleState s) s)

/-! ## The beam table's requests -/

/-- The entry in REFERENCE or FADING moves to ESTABLISHED, keeping its offset and any fade time (R37). -/
def standDown (e : Beam) : Beam := if isRef e then { e with state := .established } else e

/-- HANDOVER of an ESTABLISHED entry (R37): a reference change, reported to the run and control unit (R85). -/
def handoverTo (c : BeamCode) (s : State) : State :=
  reportRecovered (referenceChanged (takeOver c (mapBeams standDown s)))

/-- HANDOVER (R37). -/
def handover (body : List Byte) (s : State) : Answer :=
  match beamOfByte (body.getD 0 0) with
  | none => refuse .range s
  | some c =>
    if (beam s c).state = .established then done [] (handoverTo c s) else refuse .state s

/-- ADOPT of a beam and an offset, its checks in the order of R38. -/
def adoptBeam (b : Byte) (o : Int) (s : State) : Answer :=
  match beamOfByte b with
  | none => refuse .range s
  | some c =>
    if s.run.isOpen = false ∨ s.run.benched = false then refuse .state s
    else if (beam s c).state ≠ .tracking then refuse .state s
    else
      let v := clampInt (-6400) 6400 o
      ⟨if v = o then .ok else .clamped, [],
        setBeam c { beam s c with state := .established, offset := some v, window := [] } s⟩

def adopt (body : List Byte) (s : State) : Answer :=
  match body with
  | [b, o0, o1, o2, o3] => adoptBeam b (int4 o0 o1 o2 o3) s
  | _ => refuse .malformed s

/-! ## The commands -/

def execOpenRun (r : Request) (s : State) : Host.Outcome State Fault Refusal :=
  .next (answerRequest codeOpenRun 7 r openRunRequest s)

def execCloseRun (r : Request) (s : State) : Host.Outcome State Fault Refusal :=
  .next (answerRequest codeCloseRun 0 r (fun _ => closeRun) s)

def execBench (r : Request) (s : State) : Host.Outcome State Fault Refusal :=
  .next (answerRequest codeBench 2 r bench s)

def execSetDepth (r : Request) (s : State) : Host.Outcome State Fault Refusal :=
  .next (answerRequest codeSetDepth 4 r setDepthRequest s)

def execSetModeAuto (r : Request) (s : State) : Host.Outcome State Fault Refusal :=
  .next (answerRequest codeSetMode 1 r takeModeAuto s)

def execSetModeManual (r : Request) (s : State) : Host.Outcome State Fault Refusal :=
  .next (answerRequest codeSetMode 1 r takeModeManual s)

def execResume (r : Request) (s : State) : Host.Outcome State Fault Refusal :=
  .next (answerRequest codeResume 0 r (fun _ => resume) s)

def execClearTrip (r : Request) (s : State) : Host.Outcome State Fault Refusal :=
  .next (answerRequest codeClearTrip 0 r (fun _ => clearTrip) s)

def execHandover (r : Request) (s : State) : Host.Outcome State Fault Refusal :=
  .next (answerRequest codeHandover 1 r handover s)

def execAdopt (r : Request) (s : State) : Host.Outcome State Fault Refusal :=
  .next (answerRequest codeAdopt 5 r adopt s)

end Sys2Proof.Machine
end

