-- ==== Sys2Proof/Machine/TraceRequests.lean ====
section
/-! DEFINITION. The requests on the trace: TRACE_READ (R150), TRACE_MARK and TRACE_UNMARK (R154), TRACE_REWIND
(R155), TRACE_GATE (R145). -/

namespace Sys2Proof.Machine

/-- The unread count and the occupancy, 2 bytes each (R197). -/
def traceCounts (s : State) : List Byte := bytes2 (unread s.trace) ++ bytes2 (occupancy s.trace)

/-- TRACE_READ (R150, R197): the records at the read pointer, and the counts after the advance. -/
def traceRead (s : State) : Answer :=
  if unread s.trace = 0 then refuse .noData s
  else
    let recs := nextRecords s.trace
    let s := { s with trace := advanceRead (min 2 (unread s.trace)) s.trace }
    done (byte recs.length :: (traceCounts s ++ (recs.map recordBytes).flatten)) s

/-- TRACE_MARK (R154). The streaming check of R152 is made before the reply counts (log 13). -/
def traceMark (s : State) : Answer :=
  let s := burst { s with trace := releaseTo (some s.trace.read) s.trace }
  done (traceCounts s) s

/-- TRACE_UNMARK (R154). -/
def traceUnmark (s : State) : Answer :=
  let s := burst { s with trace := releaseTo none s.trace }
  done (traceCounts s) s

/-- TRACE_REWIND (R155), followed by streaming under BURST (R152, log 13). -/
def traceRewind (s : State) : Answer :=
  match s.trace.mark with
  | none => refuse .state s
  | some m =>
    let s := burst { s with trace := { s.trace with read := m } }
    done (traceCounts s) s

def setGate (isOpen : Bool) (s : State) : State :=
  { s with trace := { s.trace with gateOpen := isOpen } }

/-- TRACE_GATE (R145, R198): 0 CLOSE, 1 OPEN. -/
def traceGate (body : List Byte) (s : State) : Answer :=
  match (body.getD 0 0).toNat with
  | 0 => done [] (setGate false s)
  | 1 => done [] (setGate true s)
  | _ => refuse .range s

/-! ## The commands -/

def execTraceRead (r : Request) (s : State) : Host.Outcome State Fault Refusal :=
  .next (answerRequest codeTraceRead 0 r (fun _ => traceRead) s)

def execTraceMark (r : Request) (s : State) : Host.Outcome State Fault Refusal :=
  .next (answerRequest codeTraceMark 0 r (fun _ => traceMark) s)

def execTraceUnmark (r : Request) (s : State) : Host.Outcome State Fault Refusal :=
  .next (answerRequest codeTraceUnmark 0 r (fun _ => traceUnmark) s)

def execTraceRewind (r : Request) (s : State) : Host.Outcome State Fault Refusal :=
  .next (answerRequest codeTraceRewind 0 r (fun _ => traceRewind) s)

def execTraceGate (r : Request) (s : State) : Host.Outcome State Fault Refusal :=
  .next (answerRequest codeTraceGate 1 r traceGate s)

end Sys2Proof.Machine
end

