-- ==== Sys2Proof/Machine/ReportRequests.lean ====
section
/-! DEFINITION. The requests on the forwarding table (R165), on the events and counters (R188, R190), and the
two that report the part: SNAPSHOT (R184) and IDENTIFY (R185). -/

namespace Sys2Proof.Machine

/-! ## The forwarding table -/

def ingressOfByte (b : Byte) : Option Ingress :=
  match b.toNat with
  | 0 => some .u
  | 1 => some .d
  | 2 => some .either
  | _ => none

def actionOfByte (b : Byte) : Option Action :=
  match b.toNat with
  | 0 => some .pass
  | 1 => some .block
  | _ => none

/-- The in-use flag, 0 or 1; any other value is taken as outside its field (R194, log 15). -/
def inUseOfByte (b : Byte) : Option Bool :=
  match b.toNat with
  | 0 => some false
  | 1 => some true
  | _ => none

def ingressCode : Ingress → Nat
  | .u => 0
  | .d => 1
  | .either => 2

/-- The entry a FWD_WRITE carries; none when a field lies outside its values (R165). -/
def fwdEntryOf (use ing act : Byte) (value mask : Nat) : Option FwdEntry :=
  match inUseOfByte use, ingressOfByte ing, actionOfByte act with
  | some u, some i, some a =>
    if value < 2 ^ 29 ∧ mask < 2 ^ 29 then
      some ⟨u, i, BitVec.ofNat 29 value, BitVec.ofNat 29 mask, a⟩
    else none
  | _, _, _ => none

/-- FWD_WRITE of an entry at an index (R165). -/
def writeFwd (idx : Byte) (e : Option FwdEntry) (s : State) : Answer :=
  match e with
  | some e =>
    if idx.toNat < 24 then done [] { s with fwd := s.fwd.set idx.toNat e } else refuse .range s
  | none => refuse .range s

def fwdWrite (body : List Byte) (s : State) : Answer :=
  match body with
  | [idx, use, ing, act, v0, v1, v2, v3, m0, m1, m2, m3] =>
    writeFwd idx (fwdEntryOf use ing act (word4 v0 v1 v2 v3) (word4 m0 m1 m2 m3)) s
  | _ => refuse .malformed s

/-- The body of the FWD_READ reply (R198). -/
def fwdBody (idx : Byte) (e : FwdEntry) : List Byte :=
  [idx, flagByte e.inUse, byte (ingressCode e.ingress), byte (actionCode e.action)]
    ++ bytes4 e.value.toNat ++ bytes4 e.mask.toNat

/-- FWD_READ (R165). -/
def fwdRead (body : List Byte) (s : State) : Answer :=
  let idx := body.getD 0 0
  match s.fwd[idx.toNat]? with
  | some e => done (fwdBody idx e) s
  | none => refuse .range s

/-! ## Events and counters -/

/-- The latches and the mask (R188, R198). -/
def eventBody (s : State) : List Byte :=
  bytes4 s.events.latches.toNat ++ bytes4 s.events.mask.toNat

/-- EVENT_READ (R188): each latch that was set is then cleared. -/
def eventRead (s : State) : Answer :=
  done (eventBody s) { s with events := { s.events with latches := 0 } }

/-- MASK_WRITE of a number whose bit n masks event n (R188). -/
def writeMask (m : Nat) (s : State) : Answer :=
  if m < 2 ^ 28 then
    done (bytes4 m) { s with events := { s.events with mask := BitVec.ofNat 28 m } }
  else refuse .range s

def maskWrite (body : List Byte) (s : State) : Answer :=
  match body with
  | [a, b, c, d] => writeMask (word4 a b c d) s
  | _ => refuse .malformed s

/-- The eleven counters, 2 bytes each (R190, R198). -/
def countersBody (k : Counters) : List Byte :=
  bytes2 k.acceptedStrikes ++ bytes2 k.jumpRejects ++ bytes2 k.multiRejects ++ bytes2 k.strikeGaps
    ++ bytes2 k.malformed ++ bytes2 k.fwdDropUD ++ bytes2 k.fwdDropDU ++ bytes2 k.staleTicks
    ++ bytes2 k.traceDropped ++ bytes2 k.noticeDropped ++ bytes2 k.replyDropped

/-- COUNTERS_READ (R190). -/
def countersRead (s : State) : Answer := done (countersBody s.counters) s

/-- COUNTERS_CLEAR (R190). -/
def countersClear (s : State) : Answer := done [] { s with counters := resetCounters }

/-! ## SNAPSHOT -/

/-- The last DEPTH frame: direction, current, demand magnitude, channel sequence; zeros when absent. -/
def depthReport (s : State) : List Byte :=
  match s.depth.last with
  | some f => byte (dirCode f.dir) :: (bytes2 f.current ++ bytes2 f.magnitude ++ [f.seq])
  | none => List.replicate 6 0

/-- The last TRAVEL frame: limit, reason; zeros when absent. -/
def travelReport (s : State) : List Byte :=
  match s.travel.last with
  | some v => bytes2 v.limit ++ [byte (reasonCode v.reason)]
  | none => List.replicate 3 0

/-- The age of H_meas, when H_meas is present (R18, R184). -/
def reportedAge (s : State) : Option Nat :=
  (measured s).bind (fun m => measuredAge (beam s m.2) s)

/-- The 41 bytes of the SNAPSHOT reply body (R184, R195, R198). -/
def snapshotBody (s : State) : List Byte :=
  let h := (measured s).map (·.1)
  let d := designDepth s.chain.s s
  let e := depthError s
  [presence [h.isSome, d.isSome, e.isSome, (reference s).isSome, s.depth.last.isSome,
    s.travel.last.isSome]]
  ++ bytes4 s.chain.s ++ signed4 (h.getD 0) ++ bytes4 ((reportedAge s).getD 0)
  ++ signed4 (d.getD 0) ++ signed4 (e.getD 0)
  ++ bytes2 s.run.number ++ [flagByte s.run.isOpen, flagByte s.run.benched] ++ bytes4 s.run.start
  ++ [((reference s).map beamByte).getD 0] ++ depthReport s ++ travelReport s
  ++ bytes2 (occupancy s.trace)

/-- SNAPSHOT (R184): forming H_des may latch TARGET_SATURATED; nothing else changes. -/
def snapshot (s : State) : Answer := done (snapshotBody s) (noteTarget s.chain.s s)

/-! ## IDENTIFY -/

/-- Vendor code 0x5B, part code 410, revision 1, node number (R185, R198). -/
def identifyBody (s : State) : List Byte := [0x5B] ++ bytes2 410 ++ [1, s.node.setWidth 8]

/-- IDENTIFY, answered whether addressed to the node or broadcast, and forwarded by the table under the
destination it arrived with (R161, R185). -/
def identify (broadcast : Bool) (r : Request) (s : State) : State :=
  let s := forwardRequest (if broadcast then broadcastNode else s.node) codeIdentify r s
  match bodyOf 0 r with
  | none => sendReply codeIdentify r (refuse .malformed s)
  | some _ => sendReply codeIdentify r (done (identifyBody s) s)

/-! ## The commands -/

def execFwdWrite (r : Request) (s : State) : Host.Outcome State Fault Refusal :=
  .next (answerRequest codeFwdWrite 12 r fwdWrite s)

def execFwdRead (r : Request) (s : State) : Host.Outcome State Fault Refusal :=
  .next (answerRequest codeFwdRead 1 r fwdRead s)

def execEventRead (r : Request) (s : State) : Host.Outcome State Fault Refusal :=
  .next (answerRequest codeEventRead 0 r (fun _ => eventRead) s)

def execMaskWrite (r : Request) (s : State) : Host.Outcome State Fault Refusal :=
  .next (answerRequest codeMaskWrite 4 r maskWrite s)

def execCountersRead (r : Request) (s : State) : Host.Outcome State Fault Refusal :=
  .next (answerRequest codeCountersRead 0 r (fun _ => countersRead) s)

def execCountersClear (r : Request) (s : State) : Host.Outcome State Fault Refusal :=
  .next (answerRequest codeCountersClear 0 r (fun _ => countersClear) s)

def execSnapshot (r : Request) (s : State) : Host.Outcome State Fault Refusal :=
  .next (answerRequest codeSnapshot 0 r (fun _ => snapshot) s)

def execIdentify (broadcast : Bool) (r : Request) (s : State) : Host.Outcome State Fault Refusal :=
  .next (identify broadcast r s)

end Sys2Proof.Machine
end

