-- ==== Sys2Proof/Machine/Resets.lean ====
section
/-! DEFINITION. The three resets: power-on (R1, R96, R172), master reset by RESET (R186) and run clear by
CLEAR_RUN (R95, R187). -/

namespace Sys2Proof.Machine

/-- The lines after a reset: the levels as they are, every accepted state INACTIVE, no candidate (R62). -/
def resetLines (l : Lines) : Lines :=
  ⟨resetFilter l.odo.high, resetFilter l.dir.high, resetFilter l.dig.high, resetFilter l.stop.high⟩

/-- A line whose level stands for ACTIVE starts its candidate at the reset (R62). -/
def startAll (s : State) : State :=
  startCandidate .stop (startCandidate .dig (startCandidate .dir (startCandidate .odo s)))

/-- Master reset: every block takes its master reset values; the count runs on, the node number is kept, no
frame is emitted, RESET_DONE is latched (R186). The frames the ports have taken stand (R171). -/
def masterReset (s : State) : State :=
  startAll { State.reset with
    now := s.now
    node := s.node
    lines := resetLines s.lines
    tick := resetTick s.now.ms
    portU := ⟨[], s.portU.sent⟩
    portD := ⟨[], none, none, s.portD.sent⟩
    events := resetEvents 1
    pending := s.pending
    choice := s.choice }

/-- Power-on: the count at 0, the node number sampled from the straps, POWER_ON latched (R1, R172, R188). The
pins keep their levels and the queue of commands its commands (log 7, log 24). -/
def powerOn (straps : BitVec 3) (s : State) : State :=
  startAll { State.reset with
    node := 16 + straps.setWidth 6
    lines := resetLines s.lines
    pending := s.pending
    choice := s.choice }

/-! ## RESET -/

/-- RESET carried out: its reply is queued with the mark; where the queue is full the reply is dropped and the
master reset is made at once (R186). -/
def requestReset (r : Request) (s : State) : State :=
  if roomU s then pushU ⟨replyFrame codeReset r (done [] s), true⟩ s
  else masterReset (count .replyDropped 1 s)

/-- RESET (R186). -/
def takeReset (r : Request) (s : State) : State :=
  let s := forwardRequest s.node codeReset r s
  match bodyOf 0 r with
  | none => sendReply codeReset r (refuse .malformed s)
  | some _ => requestReset r s

/-! ## CLEAR_RUN -/

/-- The control state at a run clear: TRIPPED stays, every other state becomes STANDBY, with the handback frame
from AUTO, HOLD and SUSPENDED (R95, log 14). Under SYNCHRONOUS the TRAVEL channel holds its old value until the next tick,
where section 7.13's table has 10,000 NONE held after a run clear (R113, R118, R130, log 42). -/
def clearControl (s : State) : State :=
  if s.ctl.state = .tripped then s else releaseControl .standby s

/-- The values run clear gives the beam table, the chainage unit, the off-column indication and the trace (R22,
R66, R103, R156). -/
def clearBlocks (s : State) : State :=
  { s with
    beams := resetBeams
    chain := resetChain
    ctl := { s.ctl with offColumn := false }
    trace := clearedTrace s.trace }

/-- The run clear (R95, R187). -/
def clearRun (s : State) : State :=
  let s := clearPrior (closeRunningTest .request s)
  clearBlocks (clearControl (setMemory 0 (endRun (finishTakeover s))))

/-- CLEAR_RUN (R187). -/
def takeClearRun (s : State) : Answer :=
  let s := clearRun s
  done (runNumberBody s) s

/-! ## The commands -/

def execPowerOn (straps : BitVec 3) (s : State) : Host.Outcome State Fault Refusal :=
  .next (powerOn straps s)

def execReset (r : Request) (s : State) : Host.Outcome State Fault Refusal := .next (takeReset r s)

def execClearRun (r : Request) (s : State) : Host.Outcome State Fault Refusal :=
  .next (answerRequest codeClearRun 0 r (fun _ => takeClearRun) s)

end Sys2Proof.Machine
end

