-- ==== Sys2Proof/Machine/FramePath.lean ====
section
/-! DEFINITION. The frame path's own commands: MANUAL_VALVE (R89, R162, R167), frames no block takes (R159,
R164), a MGMT_REQ without a header (R161), an unknown request (R175), and the departures at Port U (R171)
and Port D (R128). -/

namespace Sys2Proof.Machine

/-! ## MANUAL_VALVE -/

/-- Whether a MANUAL_VALVE frame is non-neutral: RAISE or LOWER with a demand above 0 (R89); none when it is
malformed (R162, R196). -/
def parseManual (data : List Byte) : Option Bool :=
  match data with
  | dir :: d0 :: d1 :: _ =>
    if dir.toNat ≤ 2 ∧ word2 d0 d1 ≤ 10000 then some (dir ≠ 0 && 0 < word2 d0 d1) else none
  | _ => none

/-- The override: handback frame, MANUAL with its entries, OVERRIDE (R89). -/
def override (s : State) : State := latchHere .override none (releaseControl .manual s)

/-- A well-formed MANUAL_VALVE frame judged by the control state it finds: its transition, then forward or drop
(R89, R167). -/
def gateManual (nonNeutral : Bool) (f : CanFrame) (s : State) : State :=
  match s.ctl.state with
  | .standby | .manual => forwardToD f s
  | .auto | .hold | .suspended => if nonNeutral then forwardToD f (override s) else s
  | .test => if nonNeutral then forwardToD f (endTest .override s) else s
  | .tripped => s

/-- MANUAL_VALVE (R162, R167). -/
def takeManual (f : Arrival) (s : State) : State :=
  match parseManual f.data with
  | none => dropMalformed s
  | some n => gateManual n (frameOf clsManualValve f) s

/-! ## Frames no block takes -/

/-- A frame with an 11-bit identifier, or a classic remote request frame: forwarded when P_FWD_DEFAULT is PASS
(R159). -/
def passUnclassified (p : Port) (f : CanFrame) (s : State) : State :=
  match s.params.fwdDefault with
  | .pass => forwardFrom p f s
  | .block => s

/-! ## Departures -/

/-- A frame has left the Port U transmit queue: BURST streaming may fill the freed entry (R152), and the
departure of the reset reply carries out the master reset (R171, R186). -/
def afterDeparture (resetReply : Bool) (s : State) : State :=
  if resetReply then masterReset (burst s) else burst s

/-- Port U takes the oldest frame of its transmit queue; nothing is taken from an empty queue (R171, log 20). -/
def departU (s : State) : State :=
  match s.portU.queue with
  | [] => s
  | q :: rest => afterDeparture q.resetReply { s with portU := ⟨rest, some q.frame⟩ }

/-- The arbiter takes one frame: DEPTH slot, else TRAVEL slot, else the oldest of the forward queue; nothing
when none is waiting (R128, log 20). -/
def arbiterTakes (p : PortD) : PortD :=
  match p.depthSlot, p.travelSlot, p.queue with
  | some f, _, _ => { p with depthSlot := none, sent := some f }
  | none, some f, _ => { p with travelSlot := none, sent := some f }
  | none, none, f :: rest => { p with queue := rest, sent := some f }
  | none, none, [] => p

/-! ## The commands -/

def execManualValve (f : Arrival) (s : State) : Host.Outcome State Fault Refusal :=
  .next (takeManual f s)

/-- FORWARDED_FRAME (R164, R166). -/
def execForwardedFrame (p : Port) (id : Ident) (format : DataFormat) (data : List Byte) (s : State) :
    Host.Outcome State Fault Refusal :=
  .next (forwardByTable p id ⟨.ext id, .data format, data⟩ s)

def execUnclassifiedFrame (p : Port) (f : CanFrame) (s : State) : Host.Outcome State Fault Refusal :=
  .next (passUnclassified p f s)

/-- MGMT_REQ_SHORT_HEADER (R161): dropped and counted, neither answered nor forwarded, whatever it holds. -/
def execMgmtReqShortHeader (_prio : BitVec 3) (_src _tag : BitVec 6) (_format : DataFormat)
    (_byte : Option Byte) (s : State) : Host.Outcome State Fault Refusal :=
  .next (dropMalformed s)

/-- UNKNOWN_REQUEST (R175): answered UNKNOWN before any length is judged. -/
def execUnknownRequest (code : Byte) (r : Request) (s : State) : Host.Outcome State Fault Refusal :=
  .next (sendReply code r (refuse .unknown (forwardRequest s.node code r s)))

def execPortUFrameDeparture (s : State) : Host.Outcome State Fault Refusal := .next (departU s)

def execArbiterTakesFrame (s : State) : Host.Outcome State Fault Refusal :=
  .next { s with portD := arbiterTakes s.portD }

end Sys2Proof.Machine
end

