-- ==== Sys2Proof/Machine/Clock.lean ====
section
/-! DEFINITION. Time: what the part does when no command waits. Every expiry that has come due joins the
queue, and with none due the clock moves on by 1 µs (log 1). -/

namespace Sys2Proof.Machine

/-- The clock 1 µs on: the millisecond count adds 1, modulo 2^32, after 1,000 µs (R1, R61). -/
def tickClock (c : Clock) : Clock :=
  if c.us + 1 < 1000 then { c with us := c.us + 1 } else ⟨c.ms + 1, 0⟩

/-- A command listed when its moment has come. -/
def whenDue (due : Bool) (c : Instr) : List Instr := if due then [c] else []

/-- The command of a STOP filter's expiry: the accepted state changes to the opposite one (R61, R65). -/
def stopExpiry (s : State) : Instr := if s.lines.stop.active then .stopRelease else .stopAcceptedActive

/-- Every expiry that has come due. -/
def dueEvents (s : State) : List Instr :=
  whenDue (filterDue .odo s) .acceptedOdoEdge
  ++ whenDue (filterDue .dir s) .acceptedDirChange
  ++ whenDue (filterDue .dig s) .acceptedDigChange
  ++ whenDue (filterDue .stop s) (stopExpiry s)
  ++ whenDue (strikeTimeoutDue .b0 s) (.strikeTimeout .b0)
  ++ whenDue (strikeTimeoutDue .b1 s) (.strikeTimeout .b1)
  ++ whenDue (strikeTimeoutDue .b2 s) (.strikeTimeout .b2)
  ++ whenDue (strikeTimeoutDue .b3 s) (.strikeTimeout .b3)
  ++ whenDue (refTimeoutDue .reference s) .referenceTimeout
  ++ whenDue (refTimeoutDue .fading s) .fadingTimeout
  ++ whenDue (tiltDue s) .tiltExpiry
  ++ whenDue (tickDue s) .outputTick
  ++ whenDue (syncDue s) .syncTimeout
  ++ whenDue (dwellDue s) .dwellClearMoment
  ++ whenDue (stepDue s) .stepTimerExpiry
  ++ whenDue (noBeamDue s) .noBeamTimeout

/-- An element put at a place of a list. -/
def putAt (n : Nat) (x : Instr) (l : List Instr) : List Instr := l.take n ++ x :: l.drop n

/-- The permutation of a list that a number selects; every permutation is selected by some number. A list of
at most one element does not read the number. -/
def arrange : Nat → List Instr → List Instr
  | _, [] => []
  | _, [x] => [x]
  | k, x :: y :: rest =>
    let n := rest.length + 2
    putAt (k % n) x (arrange (k / n) (y :: rest))

/-- With no command waiting: the expiries due now join the queue in an order the spec leaves open, and with
none due the clock moves on (log 1, log 2). -/
def idle (s : State) : State :=
  match dueEvents s with
  | [] => { s with now := tickClock s.now }
  | e :: es =>
    { s with pending := arrange (Config.dueOrder s.choice) (e :: es), choice := s.choice + 1 }

end Sys2Proof.Machine
end

