-- ==== Sys2Proof/Machine/Dispatch.lean ====
section
/-! DEFINITION. The dispatch: one arm for each command, each a direct call of its meaning. -/

namespace Sys2Proof.Machine

def exec (i : Instr) (s : State) : Host.Outcome State Fault Refusal :=
  match i with
  | .powerOn straps => Sys2Proof.Machine.execPowerOn straps s
  | .strike f => Sys2Proof.Machine.execStrike f s
  | .tilt f => Sys2Proof.Machine.execTilt f s
  | .sync f => Sys2Proof.Machine.execSync f s
  | .manualValve f => Sys2Proof.Machine.execManualValve f s
  | .forwardedFrame p id format data => Sys2Proof.Machine.execForwardedFrame p id format data s
  | .unclassifiedFrame p f => Sys2Proof.Machine.execUnclassifiedFrame p f s
  | .mgmtReqShortHeader prio src tag format byte => Sys2Proof.Machine.execMgmtReqShortHeader prio src tag format byte s
  | .unknownRequest code r => Sys2Proof.Machine.execUnknownRequest code r s
  | .identify broadcast r => Sys2Proof.Machine.execIdentify broadcast r s
  | .snapshot r => Sys2Proof.Machine.execSnapshot r s
  | .reset r => Sys2Proof.Machine.execReset r s
  | .clearRun r => Sys2Proof.Machine.execClearRun r s
  | .paramRead r => Sys2Proof.Machine.execParamRead r s
  | .paramWrite r => Sys2Proof.Machine.execParamWrite r s
  | .loadBegin r => Sys2Proof.Machine.execLoadBegin r s
  | .loadEntry r => Sys2Proof.Machine.execLoadEntry r s
  | .loadCommit r => Sys2Proof.Machine.execLoadCommit r s
  | .loadCancel r => Sys2Proof.Machine.execLoadCancel r s
  | .readEntry r => Sys2Proof.Machine.execReadEntry r s
  | .openRun r => Sys2Proof.Machine.execOpenRun r s
  | .closeRun r => Sys2Proof.Machine.execCloseRun r s
  | .bench r => Sys2Proof.Machine.execBench r s
  | .setDepth r => Sys2Proof.Machine.execSetDepth r s
  | .setModeAuto r => Sys2Proof.Machine.execSetModeAuto r s
  | .setModeManual r => Sys2Proof.Machine.execSetModeManual r s
  | .resume r => Sys2Proof.Machine.execResume r s
  | .clearTrip r => Sys2Proof.Machine.execClearTrip r s
  | .handover r => Sys2Proof.Machine.execHandover r s
  | .adopt r => Sys2Proof.Machine.execAdopt r s
  | .testStart r => Sys2Proof.Machine.execTestStart r s
  | .testAbort r => Sys2Proof.Machine.execTestAbort r s
  | .testResult r => Sys2Proof.Machine.execTestResult r s
  | .testApply r => Sys2Proof.Machine.execTestApply r s
  | .fwdWrite r => Sys2Proof.Machine.execFwdWrite r s
  | .fwdRead r => Sys2Proof.Machine.execFwdRead r s
  | .traceRead r => Sys2Proof.Machine.execTraceRead r s
  | .traceMark r => Sys2Proof.Machine.execTraceMark r s
  | .traceUnmark r => Sys2Proof.Machine.execTraceUnmark r s
  | .traceRewind r => Sys2Proof.Machine.execTraceRewind r s
  | .traceGate r => Sys2Proof.Machine.execTraceGate r s
  | .eventRead r => Sys2Proof.Machine.execEventRead r s
  | .maskWrite r => Sys2Proof.Machine.execMaskWrite r s
  | .countersRead r => Sys2Proof.Machine.execCountersRead r s
  | .countersClear r => Sys2Proof.Machine.execCountersClear r s
  | .portUFrameDeparture => Sys2Proof.Machine.execPortUFrameDeparture s
  | .arbiterTakesFrame => Sys2Proof.Machine.execArbiterTakesFrame s
  | .lineLevelChange l high => Sys2Proof.Machine.execLineLevelChange l high s
  | .acceptedOdoEdge => Sys2Proof.Machine.execAcceptedOdoEdge s
  | .acceptedDirChange => Sys2Proof.Machine.execAcceptedDirChange s
  | .acceptedDigChange => Sys2Proof.Machine.execAcceptedDigChange s
  | .stopAcceptedActive => Sys2Proof.Machine.execStopAcceptedActive s
  | .stopRelease => Sys2Proof.Machine.execStopRelease s
  | .strikeTimeout c => Sys2Proof.Machine.execStrikeTimeout c s
  | .referenceTimeout => Sys2Proof.Machine.execReferenceTimeout s
  | .fadingTimeout => Sys2Proof.Machine.execFadingTimeout s
  | .tiltExpiry => Sys2Proof.Machine.execTiltExpiry s
  | .outputTick => Sys2Proof.Machine.execOutputTick s
  | .syncTimeout => Sys2Proof.Machine.execSyncTimeout s
  | .holdDistanceExpiry => Sys2Proof.Machine.execHoldDistanceExpiry s
  | .dwellClearMoment => Sys2Proof.Machine.execDwellClearMoment s
  | .stepTimerExpiry => Sys2Proof.Machine.execStepTimerExpiry s
  | .noBeamTimeout => Sys2Proof.Machine.execNoBeamTimeout s

end Sys2Proof.Machine
end

