-- ==== Sys2Proof/Safety.lean ====
section
/-! DEFINITION. What a sound state of the part is: the invariants that its rules promise, in the terms the
statements use. Each is meant to be kept by every step. -/

namespace Sys2Proof

open Machine

/-! ## Counts and sizes -/

/-- No counter exceeds 65,535 (R190). -/
structure CountersBounded (k : Counters) : Prop where
  acceptedStrikes : k.acceptedStrikes ≤ 65535
  jumpRejects : k.jumpRejects ≤ 65535
  multiRejects : k.multiRejects ≤ 65535
  strikeGaps : k.strikeGaps ≤ 65535
  malformed : k.malformed ≤ 65535
  fwdDropUD : k.fwdDropUD ≤ 65535
  fwdDropDU : k.fwdDropDU ≤ 65535
  staleTicks : k.staleTicks ≤ 65535
  traceDropped : k.traceDropped ≤ 65535
  noticeDropped : k.noticeDropped ≤ 65535
  replyDropped : k.replyDropped ≤ 65535

/-- The queues hold at most 32 and 16 frames, the forwarding table has 24 entries, no counter exceeds 65,535,
and the node number lies in 16 to 23 (R163, R169, R170, R172, R190). -/
structure Bounded (s : State) : Prop where
  portU : s.portU.queue.length ≤ 32
  portD : s.portD.queue.length ≤ 16
  fwd : s.fwd.length = 24
  counters : CountersBounded s.counters
  node : 16 ≤ s.node.toNat ∧ s.node.toNat ≤ 23

/-- The chainage unit within its ranges: the chainage in 0 to 5,000,000 and at or below the high-water mark, the
remainder below 1,000, the boundary index the chainage in whole trace steps, d_H at most 10,000,000 (R66). -/
structure ChainSound (s : State) : Prop where
  mark : s.chain.s ≤ s.chain.h
  limit : s.chain.h ≤ chainageMax
  remainder : s.chain.r < 1000
  index : s.chain.n = s.chain.s / s.params.traceStep
  hold : s.chain.dH ≤ 10000000

/-! ## Parameters -/

/-- Every numeric parameter lies in its range of R199, and P_UMIN does not exceed P_UMAX (R177). -/
structure ParamsInRange (p : Params) : Prop where
  range : ∀ id lo hi v, paramKind id = some (.numeric lo hi) → readParam id p = some v → lo ≤ v ∧ v ≤ hi
  order : p.umin ≤ p.umax

/-! ## Beam table -/

/-- An entry of the beam table: an offset exactly in ESTABLISHED, REFERENCE and FADING (R20, R34, R37 to R39); a
beam height in those and in TRACKING (R24, R25); samples in TRACKING only (R35); a fade time in FADING
(R26). -/
structure BeamSound (e : Beam) : Prop where
  offset : e.offset.isSome = true ↔ e.state = .established ∨ e.state = .reference ∨ e.state = .fading
  height : e.state = .tracking ∨ e.state = .established ∨ e.state = .reference ∨ e.state = .fading →
    e.accepted.isSome = true
  window : e.window ≠ [] → e.state = .tracking
  fade : e.state = .fading → e.fade.isSome = true

/-- Every entry is sound, and at most one is in REFERENCE or FADING (R21). -/
structure BeamsSound (s : State) : Prop where
  entry : ∀ c, BeamSound (beam s c)
  one : ∀ c d, isRef (beam s c) = true → isRef (beam s d) = true → c = d

/-! ## Run and control unit -/

/-- A test runs exactly in TEST, and the prior-state record is present exactly then and names STANDBY or MANUAL
(R75, R90, R131). -/
structure TestSound (s : State) : Prop where
  running : testRunning s = true ↔ s.ctl.state = .test
  prior : s.ctl.state = .test → s.ctl.prior = some .standby ∨ s.ctl.prior = some .manual
  noPrior : s.ctl.state ≠ .test → s.ctl.prior = none

/-- The control states against the run: closed in STANDBY and in a test begun there, open in MANUAL, AUTO, HOLD and
SUSPENDED and in a test begun in MANUAL; benched only in an open run; AUTO, HOLD and SUSPENDED only in a
benched run (section 5.1, R77, R82). AUTO has an entry in REFERENCE and HOLD one in FADING (R84, R85), and the
off-column indication is set in AUTO only (R103). -/
structure ControlSound (s : State) : Prop where
  test : TestSound s
  closed : s.ctl.state = .standby ∨ s.ctl.prior = some .standby → s.run.isOpen = false
  isOpen : s.ctl.state = .manual ∨ s.ctl.state = .auto ∨ s.ctl.state = .hold ∨ s.ctl.state = .suspended
    ∨ s.ctl.prior = some .manual → s.run.isOpen = true
  benched : s.run.benched = true → s.run.isOpen = true
  ready : s.ctl.state = .auto ∨ s.ctl.state = .hold ∨ s.ctl.state = .suspended → s.run.benched = true
  reference : s.ctl.state = .auto → ∃ c, (beam s c).state = .reference
  fading : s.ctl.state = .hold → ∃ c, (beam s c).state = .fading
  offColumn : s.ctl.offColumn = true → s.ctl.state = .auto

/-! ## Output channels -/

/-- The channels: a fresh flag exactly with a pending value (R113); the DEPTH channel silenced in STANDBY and MANUAL
(R118); in TRIPPED both pending values absent, NEUTRAL and 0 held (R119). -/
structure ChannelsSound (s : State) : Prop where
  test : TestSound s
  depth : s.depth.fresh = true ↔ s.depth.waiting.isSome = true
  travel : s.travel.fresh = true ↔ s.travel.waiting.isSome = true
  silent : s.ctl.state = .standby ∨ s.ctl.state = .manual ∨ s.ctl.state = .tripped →
    s.depth.waiting = none ∧ s.depth.held = .neutral
  stopped : s.ctl.state = .tripped → s.travel.waiting = none ∧ s.travel.held = ⟨0, .tripped⟩

/-- The magnitude of a demand; 0 for NEUTRAL and for a test value. -/
def demandOf : DepthValue → Nat
  | .neutral => 0
  | .demand _ u => u
  | .test _ _ => 0

/-- No demand held, pending or remembered exceeds P_UMAX (R104, R106). -/
structure DemandBounded (s : State) : Prop where
  memory : s.ctl.memory.natAbs ≤ s.params.umax
  held : demandOf s.depth.held ≤ s.params.umax
  waiting : ∀ v, s.depth.waiting = some v → demandOf v ≤ s.params.umax

/-! ## Profile store -/

/-- A bank in use: empty, or with s_0 = 0, strictly increasing starts, and the base offsets of R46 against its
basis grade, every one within ±200,000,000 (R43). -/
structure BankSound (b : Bank) : Prop where
  first : ∀ e, b.entries.head? = some e → e.start = 0
  rising : startsIncrease b.entries = true
  offsets : b.offsets = baseOffsets b.basis b.entries
  range : offsetsInRange b.offsets = true

/-- The committed tables: the ACTIVE bank sound (R43), the tilt table whole (R15), the valve maps valid (R124); with a
run open, all four present and the ACTIVE bank against the run's laser grade (R53, R78); a pending takeover only
in an open run, with a staged bank that is sound and against the same grade (R48). -/
structure TablesSound (s : State) : Prop where
  active : BankSound s.store.active
  tilt : ∀ t, s.store.tiltTable = some t → t.length = 25
  raiseMap : ∀ m, s.store.raiseMap = some m → mapValid m = true
  lowerMap : ∀ m, s.store.lowerMap = some m → mapValid m = true
  run : s.run.isOpen = true → tablesLoaded s = true ∧ s.store.active.basis = s.run.grade
  takeover : s.store.takeover.isSome = true → s.run.isOpen = true ∧ BankSound s.store.staging
    ∧ s.store.staging.entries ≠ [] ∧ s.store.staging.basis = s.run.grade
  session : s.store.takeover.isSome = true → ∀ sn, s.store.session = some sn → sn.kind ≠ .profile

/-! ## Trace -/

/-- The ring: at most 4,096 records from the anchor to the tail, the read pointer between them, and exactly those
records kept (R147, R148). -/
structure TraceSound (s : State) : Prop where
  bound : occupancy s.trace ≤ ringSize
  order : readKept s.trace + unread s.trace = occupancy s.trace
  kept : s.trace.kept.length = occupancy s.trace

/-! ## Frame path -/

/-- No MANUAL_VALVE frame waits for Port D in AUTO, HOLD, SUSPENDED, TEST or TRIPPED (R167, R168), and every waiting
command is one that can reach some part (log 9). -/
structure ManualGated (s : State) : Prop where
  test : TestSound s
  formed : ∀ c, c ∈ s.pending → ∃ node, c.wellFormed node = true
  queue : s.ctl.state ≠ .standby → s.ctl.state ≠ .manual → ∀ f, f ∈ s.portD.queue → isManualValve f = false

/-! ## The shape of a request -/

/-- The code, the body length and the request of a command whose body length is fixed (R198): every request but
IDENTIFY, LOAD_ENTRY and the unknown ones. -/
def fixedRequest : Instr → Option (Byte × Nat × Request)
  | .snapshot r => some (codeSnapshot, 0, r)
  | .reset r => some (codeReset, 0, r)
  | .clearRun r => some (codeClearRun, 0, r)
  | .paramRead r => some (codeParamRead, 1, r)
  | .paramWrite r => some (codeParamWrite, 5, r)
  | .loadBegin r => some (codeLoadBegin, 1, r)
  | .loadCommit r => some (codeLoadCommit, 6, r)
  | .loadCancel r => some (codeLoadCancel, 1, r)
  | .readEntry r => some (codeReadEntry, 3, r)
  | .openRun r => some (codeOpenRun, 7, r)
  | .closeRun r => some (codeCloseRun, 0, r)
  | .bench r => some (codeBench, 2, r)
  | .setDepth r => some (codeSetDepth, 4, r)
  | .setModeAuto r => some (codeSetMode, 1, r)
  | .setModeManual r => some (codeSetMode, 1, r)
  | .resume r => some (codeResume, 0, r)
  | .clearTrip r => some (codeClearTrip, 0, r)
  | .handover r => some (codeHandover, 1, r)
  | .adopt r => some (codeAdopt, 5, r)
  | .testStart r => some (codeTestStart, 1, r)
  | .testAbort r => some (codeTestAbort, 0, r)
  | .testResult r => some (codeTestResult, 0, r)
  | .testApply r => some (codeTestApply, 0, r)
  | .fwdWrite r => some (codeFwdWrite, 12, r)
  | .fwdRead r => some (codeFwdRead, 1, r)
  | .traceRead r => some (codeTraceRead, 0, r)
  | .traceMark r => some (codeTraceMark, 0, r)
  | .traceUnmark r => some (codeTraceUnmark, 0, r)
  | .traceRewind r => some (codeTraceRewind, 0, r)
  | .traceGate r => some (codeTraceGate, 1, r)
  | .eventRead r => some (codeEventRead, 0, r)
  | .maskWrite r => some (codeMaskWrite, 4, r)
  | .countersRead r => some (codeCountersRead, 0, r)
  | .countersClear r => some (codeCountersClear, 0, r)
  | .powerOn _ | .strike _ | .tilt _ | .sync _ | .manualValve _ | .forwardedFrame _ _ _ _
  | .unclassifiedFrame _ _ | .mgmtReqShortHeader _ _ _ _ _ | .unknownRequest _ _ | .identify _ _
  | .loadEntry _ | .portUFrameDeparture | .arbiterTakesFrame | .lineLevelChange _ _
  | .acceptedOdoEdge | .acceptedDirChange | .acceptedDigChange | .stopAcceptedActive | .stopRelease
  | .strikeTimeout _ | .referenceTimeout | .fadingTimeout | .tiltExpiry | .outputTick
  | .syncTimeout | .holdDistanceExpiry | .dwellClearMoment | .stepTimerExpiry
  | .noBeamTimeout => none

/-- The request carries exactly this body: its declared length is the body's, and the body's bytes come first
after the header (R194). -/
def Carries (r : Request) (body : List Byte) : Prop :=
  r.len.toNat = body.length ∧ r.rest.take body.length = body

/-- The outcome of a request: its own frame is forwarded by the table, what the owning rule gives is carried out on
that state, and the one reply follows (R166, R175). -/
def answered (code : Byte) (r : Request) (s : State) (act : State → Answer) :
    Host.Outcome State Fault Refusal :=
  .next (sendReply code r (act (forwardRequest s.node code r s)))

/-- The state after a STRIKE frame of a beam has been forwarded by the table and its sequence checked (R5, R166). -/
def strikeSeen (f : Arrival) (c : BeamCode) (n : Byte) (s : State) : State :=
  checkSequence c n (forwardTaken .u 0x21 f s)

/-- A height of an accepted SINGLE taken into the entry of its beam (R7, R8, R20). -/
def heightTaken (c : BeamCode) (b : Int) (s : State) : State :=
  setBeam c { beam s c with
      accepted := some ⟨b, s.now.ms⟩, rejects := 0, lastStrike := some s.now.ms, fade := none }
    { s with counters := { s.counters with
      acceptedStrikes := min 65535 (s.counters.acceptedStrikes + 1) } }

/-- One reject of a SINGLE: JUMP_REJECTS adds 1, and the reject that carries the reject sum above P_REJECT_THRESH latches
REJECT_THRESHOLD (R8, R191). A threshold written equal to the sum is passed by the next reject (log 35). -/
def jumpCounted (c : BeamCode) (s : State) : State :=
  let rejects := min 65535 (s.counters.jumpRejects + 1)
  let t : State := { s with counters := { s.counters with jumpRejects := rejects } }
  if s.counters.jumpRejects + s.counters.multiRejects ≤ s.params.rejectThresh ∧
      s.params.rejectThresh < rejects + s.counters.multiRejects then
    latch .rejectThreshold (some c) s.chain.s t
  else t

/-- A height within P_JUMP of the entry's last one, or with none held (R7). -/
def nearLast (c : BeamCode) (b : Int) (s : State) : Bool :=
  (beam s c).accepted.all (fun h => (b - h.b).natAbs ≤ s.params.jump)

/-- A SINGLE of height b is accepted with result r, leaving w before the beam table moves: ACCEPTED near the last height,
or REBASED, with JUMP_REBASED, as the reject that reaches P_JUMPN (R7, R8). -/
def HeightAccepted (f : Arrival) (c : BeamCode) (n : Byte) (b : Int) (s : State) (r : StrikeResult)
    (w : State) : Prop :=
  let u := strikeSeen f c n s
  (nearLast c b s = true ∧ r = .accepted b ∧ w = heightTaken c b u) ∨
  (nearLast c b s = false ∧ s.params.jumpn ≤ (beam s c).rejects + 1 ∧ r = .rebased b ∧
    w = latch .jumpRebased (some c) s.chain.s (heightTaken c b (jumpCounted c u)))

/-- The state a command leaves. -/
def left (c : Instr) (s : State) : State :=
  match exec c s with
  | .next t => t
  | .fault _ => s
  | .refused _ => s

/-! ## What has come due -/

/-- More than P_STRIKE_TMO since the entry's last strike and, where it holds a fade time, since that (R25, R26, R28). -/
def strikeExpired (c : BeamCode) (s : State) : Prop :=
  (beam s c).lastStrike.any (fun t => s.params.strikeTmo < age s.now.ms t) = true ∧
    (beam s c).fade.all (fun t => s.params.strikeTmo < age s.now.ms t) = true

/-- The candidate of a line filtered on the millisecond count has held for its filter time (R61). -/
def heldFor (filter : Nat) (f : LineFilter) (s : State) : Prop :=
  f.since.any (fun t => filter ≤ age s.now.ms t.ms) = true

/-- No frame of the opposite direction was emitted less than P_DWELL ago (R123). -/
def dwellPassed (d : Dir) (s : State) : Bool :=
  (if d = .raise then s.depth.lastLower else s.depth.lastRaise).all (fun t => s.params.dwell ≤ age s.now.ms t)

/-- The moment of an expiry has come: the line filters (R61), the timeouts of the beams (R25, R26, R28) and of the tilt
record (R13), the internal tick and the SYNC timeout (R121, R122), and the valve test's three moments (R134 to R136).
No other command is an expiry with a moment of its own; HOLD_DISTANCE_EXPIRY is an edge's (log 4). -/
def ExpiryDue (s : State) : Instr → Prop
  | .acceptedOdoEdge => s.lines.odo.since.any
      (fun t => s.params.odoFilt ≤ age s.now.ms t.ms * 1000 + s.now.us - t.us) = true
  | .acceptedDirChange => heldFor s.params.dirFilt s.lines.dir s
  | .acceptedDigChange => heldFor s.params.digFilt s.lines.dig s
  | .stopAcceptedActive => s.lines.stop.active = false ∧ heldFor s.params.stopFilt s.lines.stop s
  | .stopRelease => s.lines.stop.active = true ∧ heldFor s.params.stopFilt s.lines.stop s
  | .strikeTimeout c => ((beam s c).state = .acquiring ∨ (beam s c).state = .tracking ∨
      (beam s c).state = .established) ∧ strikeExpired c s
  | .referenceTimeout => ∃ c, reference s = some c ∧ (beam s c).state = .reference ∧ strikeExpired c s
  | .fadingTimeout => ∃ c, reference s = some c ∧ (beam s c).state = .fading ∧ strikeExpired c s
  | .tiltExpiry => s.tilt.fresh = true ∧
      s.tilt.arrival.any (fun t => s.params.tiltTmo < age s.now.ms t) = true
  | .outputTick => s.tick.owed = true ∨ (s.tick.mode ≠ .syncFrames ∧
      age s.tick.nextTick s.tick.lastTick ≤ age s.now.ms s.tick.lastTick)
  | .syncTimeout => s.tick.mode = .syncFrames ∧ s.params.syncTmo < age s.now.ms s.tick.syncSince
  | .dwellClearMoment => ∃ t, s.test.phase = .waiting t ∧ dwellPassed t.dir s = true
  | .stepTimerExpiry => ∃ t i timer set, s.test.phase = .stepping t i timer set ∧
      age timer set ≤ age s.now.ms set
  | .noBeamTimeout => ∃ t, testRun s = some t ∧ s.params.vtNostrike < age s.now.ms t.lastUsable
  | .holdDistanceExpiry | .powerOn _ | .strike _ | .tilt _ | .sync _ | .manualValve _ | .forwardedFrame _ _ _ _
  | .unclassifiedFrame _ _ | .mgmtReqShortHeader _ _ _ _ _ | .unknownRequest _ _ | .identify _ _ | .snapshot _
  | .reset _ | .clearRun _ | .paramRead _ | .paramWrite _ | .loadBegin _ | .loadEntry _ | .loadCommit _
  | .loadCancel _ | .readEntry _ | .openRun _ | .closeRun _ | .bench _ | .setDepth _ | .setModeAuto _
  | .setModeManual _ | .resume _ | .clearTrip _ | .handover _ | .adopt _ | .testStart _ | .testAbort _
  | .testResult _ | .testApply _ | .fwdWrite _ | .fwdRead _ | .traceRead _ | .traceMark _ | .traceUnmark _
  | .traceRewind _ | .traceGate _ | .eventRead _ | .maskWrite _ | .countersRead _ | .countersClear _
  | .portUFrameDeparture | .arbiterTakesFrame | .lineLevelChange _ _ => False

/-! ## What the rules put on the outputs -/

/-- One TRACE_DATA frame on the Port U queue with the records at the read pointer, two where two are unread, and the read
pointer past them (R151, R197). -/
def recordsSent (s : State) : State :=
  let k := min 2 (s.trace.tail - s.trace.read).toNat
  let before := (s.trace.read - s.trace.mark.getD s.trace.read).toNat
  let records := (s.trace.kept.drop before).take k
  let layout := byte records.length :: (records.map recordBytes).flatten
  let frame : CanFrame := ⟨.ext (identOf 6 0x43 63 s.node 0), .data .fd,
    layout ++ List.replicate (fdLength layout.length - layout.length) 0⟩
  { s with
    trace := { s.trace with
      read := s.trace.read + BitVec.ofNat 32 k
      kept := if s.trace.mark = none then s.trace.kept.drop k else s.trace.kept }
    portU := { s.portU with queue := s.portU.queue ++ [⟨frame, false⟩] } }

/-- A TRACE_DATA frame may be queued: a record is unread and 8 entries of the Port U queue are free (R151). -/
def mayStream (s : State) : Prop := s.trace.tail ≠ s.trace.read ∧ s.portU.queue.length + 8 ≤ 32

/-- The DEPTH channel silenced: nothing pending, NEUTRAL held (R118). -/
def quieted (s : State) : State :=
  { s with depth := { s.depth with waiting := none, fresh := false, held := .neutral } }

/-- A NEUTRAL frame emitted at once: NEUTRAL held, the last frame and the mark set, the channel sequence 1 on, and
the VALVE_CMD frame in the DEPTH command slot (R112, R127, R196). -/
def neutralSent (s : State) : State :=
  { s with
    depth := { s.depth with
      held := .neutral, emitted := true, last := some ⟨none, 0, 0, s.depth.seq⟩, seq := s.depth.seq + 1 }
    portD := { s.portD with
      depthSlot := some ⟨.ext (identOf 1 0x31 63 s.node 0), .data .fd, [0, 0, 0, s.depth.seq]⟩ } }

/-- A TRAVEL value emitted at once: held and last frame, the mark set, and the TRAVEL_CMD frame in the TRAVEL
command slot (R112, R127, R196). -/
def travelSent (v : TravelValue) (s : State) : State :=
  { s with
    travel := { s.travel with held := v, emitted := true, last := some v }
    portD := { s.portD with
      travelSlot := some ⟨.ext (identOf 2 0x32 63 s.node 0), .data .fd,
        bytes2 v.limit ++ [byte (reasonCode v.reason)]⟩ } }

/-- The forward queue of Port D without its MANUAL_VALVE frames (R168). -/
def manualDiscarded (s : State) : State :=
  { s with portD := { s.portD with queue := s.portD.queue.filter (fun f => !isManualValve f) } }

/-- The entry to STANDBY or MANUAL: a NEUTRAL frame from AUTO, HOLD, SUSPENDED and TRIPPED, the DEPTH channel
silenced, TRAVEL 10,000, the off-column indication cleared when leaving AUTO (R76, R103, R118). -/
def released (new : CtlState) (s : State) : State :=
  let v := if s.ctl.state = .auto ∨ s.ctl.state = .hold ∨ s.ctl.state = .suspended ∨ s.ctl.state = .tripped
    then neutralSent (quieted s) else quieted s
  writeTravel ⟨10000, .none⟩ { v with ctl := { s.ctl with
    state := new, offColumn := if s.ctl.state = .auto then false else s.ctl.offColumn } }

/-- The entry to AUTO: demand memory 0, nothing written to the channels, waiting MANUAL_VALVE frames discarded (R82,
R85, R87, R168). -/
def autoEntered (s : State) : State :=
  manualDiscarded { s with ctl := { s.ctl with state := .auto, memory := 0, offColumn := false } }

/-- HOLD to SUSPENDED: NEUTRAL and TRAVEL 0 with reason SUSPENDED, and the SUSPENDED event with the reference (R76,
R86). -/
def suspendedEntered (s : State) : State :=
  latch .suspended (reference s) s.chain.s (writeTravel ⟨0, .suspended⟩ (writeDepth .neutral
    { s with ctl := { s.ctl with state := .suspended } }))

/-- The STAGING bank made ACTIVE, STAGING emptied, no takeover pending, PROFILE_SWAPPED latched (R54). -/
def swapped (s : State) : State :=
  latch .profileSwapped none s.chain.s { s with store := { s.store with
    active := s.store.staging, staging := ⟨[], 0, []⟩, takeover := none } }

/-- The result record of a running test that ends (R132): the outcome, its direction, beam and step current, the
movement of the beam's last height in the test's direction, and the time since its start. -/
def resultOf (o : TestOutcome) (t : TestRun) (current : Option Nat) (s : State) : TestRecord :=
  ⟨o, some t.dir, some t.beam, current,
    (beam s t.beam).accepted.map (fun h => if t.dir = .raise then t.b0 - h.b else h.b - t.b0),
    some (age s.now.ms t.start)⟩

/-- A running test ended with an outcome other than ABORTED_STOP, back in the state before it: NEUTRAL frame, record,
TEST_DONE, IDLE, and the entries of that state (R90, R138). -/
def testEnded (o : TestOutcome) (back : CtlState) (t : TestRun) (current : Option Nat) (s : State) : State :=
  let v := latch .testDone (some t.beam) s.chain.s
    { neutralSent s with test := ⟨s.test.phase, resultOf o t current s⟩ }
  writeTravel ⟨10000, .none⟩ (quieted { v with
    test := ⟨.idle, v.test.result⟩, ctl := { s.ctl with state := back, prior := none } })

/-- A step current of a running test written: its value held and emitted at once, its timer set to P_VT_PERIOD after
this moment (R120, R134, R135). -/
def stepTaken (t : TestRun) (current : Nat) (s : State) : State :=
  emitDepth { s with
    test := ⟨.stepping t current (s.now.ms + BitVec.ofNat 32 s.params.vtPeriod) s.now.ms, s.test.result⟩
    depth := { s.depth with held := .test t.dir current } }

end Sys2Proof
end

