-- ==== Sys2Proof/Certificates/Slice0/Obligations.lean ====
section
/-! DEFINITION. The statements for the provers. -/

open Sys2Proof Sys2Proof.Machine

/-! ## The queue of commands, reset, and what every step keeps -/

/-- A step carries out the command at the front of the queue on the state with the queue's rest. The queue of
commands is the model's own (log 25). -/
def Obligations.StepRunsFrontCommand : Prop :=
  ∀ (c : Instr) (rest : List Instr) (s : State),
    step { s with pending := c :: rest } = exec c { s with pending := rest }

/-- With no command waiting, the expiries that are due, and no others, join the queue, each once, in an order nothing here
fixes; with none due the clock moves on 1 µs, the millisecond count by 1 modulo 2^32 after 1,000 of them. That the
clock moves when the queue is empty is the model's choice (log 1, log 2), and so is that a tick which fell together
with a SYNC frame stays due (log 38). -/
def Obligations.IdleStep : Prop :=
  ∀ s : State,
    (∀ c : Instr, c ∈ dueEvents s ↔ ExpiryDue s c) ∧ (dueEvents s).Nodup ∧
    (s.pending = [] →
      ((∀ c, ¬ ExpiryDue s c) → step s = .next { s with now :=
        if s.now.us + 1 < 1000 then ⟨s.now.ms, s.now.us + 1⟩ else ⟨s.now.ms + 1, 0⟩ }) ∧
      ((∃ c, ExpiryDue s c) → ∃ l : List Instr, l.Perm (dueEvents s) ∧
        step s = .next { s with pending := l, choice := s.choice + 1 }))

/-- What power-on leaves, for every piece of state whose value the spec gives: parameters by identifier, beam table,
tilt record, profile store, run record, control unit, channels, test, trace, table, queues, latches, mask,
counters, lines and chainage. The levels at the pins, the strap value, the last tick and the last frame taken are
the model's choices (log 6, 7, 23) and are not stated. -/
def Obligations.ResetValues : Prop :=
  (∀ p ∈ ([(1, 20), (2, 20000), (3, 300), (4, 3), (5, 500), (6, 400), (7, 4), (8, 150), (9, 8), (10, 20),
      (11, 1), (12, 2000), (13, 10000), (14, 0), (15, 0), (16, 200), (17, 20), (18, 20), (19, 20), (20, 15),
      (21, 40), (22, 800), (23, 6000), (24, 1000), (25, 120), (26, 50), (27, 20), (28, 3000), (29, 2000),
      (30, 50), (31, 0), (32, 200), (33, 1), (34, 1), (35, 5000), (36, 100), (37, 3584), (38, 0), (39, 0),
      (40, 2), (41, 128), (42, 0), (43, 100), (44, 5), (45, 250), (46, 30), (47, 1200), (48, 1000)]
      : List (Nat × Nat)), readParam p.1 State.reset.params = some p.2) ∧
  (∀ c, beam State.reset c = ⟨none, none, 0, none, .unseen, 0, none, [], none⟩) ∧
  State.reset.tilt = ⟨0, none, false⟩ ∧
  State.reset.store = ⟨⟨[], 0, []⟩, ⟨[], 0, []⟩, none, none, [], none, none, none⟩ ∧
  State.reset.run = ⟨0, false, 0, 0, false, 0⟩ ∧
  State.reset.ctl = ⟨.standby, none, 0, false⟩ ∧
  State.reset.depth = ⟨none, false, .neutral, false, none, none, none, 0⟩ ∧
  State.reset.travel = ⟨none, false, ⟨10000, .none⟩, false, none⟩ ∧
  State.reset.tick.mode = .internalTicks ∧ State.reset.tick.nextTick = 50 ∧
  State.reset.test = ⟨.idle, ⟨.none, none, none, none, none, none⟩⟩ ∧
  State.reset.trace = ⟨0, 0, none, 0, [], false⟩ ∧
  State.reset.fwd = List.replicate 24 ⟨false, .either, 0, 0, .pass⟩ ∧
  State.reset.portU.queue = [] ∧ State.reset.portD.queue = [] ∧
  State.reset.portD.depthSlot = none ∧ State.reset.portD.travelSlot = none ∧
  State.reset.events = ⟨1, 0xFFFFFFF⟩ ∧ State.reset.counters = ⟨0, 0, 0, 0, 0, 0, 0, 0, 0, 0, 0⟩ ∧
  (∀ l, (lineOf State.reset l).active = false ∧ (lineOf State.reset l).since = none) ∧
  State.reset.chain = ⟨0, 0, 0, 0, 0⟩ ∧ State.reset.now.ms = 0

/-- Every invariant that the statements below say each step keeps holds of the state after reset. -/
def Obligations.ResetIsSound : Prop :=
  Bounded State.reset ∧ ChainSound State.reset ∧ ParamsInRange State.reset.params ∧
  BeamsSound State.reset ∧ ControlSound State.reset ∧ ChannelsSound State.reset ∧
  DemandBounded State.reset ∧ TablesSound State.reset ∧ TraceSound State.reset ∧
  ManualGated State.reset

/-- Every step keeps the queues within 32 and 16 frames, the table at 24 entries, the counters within 65,535, the
node number in 16 to 23, and the chainage unit in its ranges with the boundary index floor(s / P_TRACE_STEP). -/
def Obligations.StepKeepsSizesAndChainage : Prop :=
  ∀ s t : State, Bounded s ∧ ChainSound s → step s = .next t → Bounded t ∧ ChainSound t

/-- Every step keeps every numeric parameter in its range and P_UMIN at or below P_UMAX. -/
def Obligations.StepKeepsParamRanges : Prop :=
  ∀ s t : State, ParamsInRange s.params → step s = .next t → ParamsInRange t.params

/-- Every step keeps the beam table sound: at most one entry in REFERENCE or FADING, and offset, beam height, sample
window and fade time where the entry's state has them. -/
def Obligations.StepKeepsOneReference : Prop :=
  ∀ s t : State, BeamsSound s → step s = .next t → BeamsSound t

/-- Every step keeps the control state consistent with the run record, the prior-state record, the running test, the
beam table and the off-column indication. -/
def Obligations.StepKeepsControlSound : Prop :=
  ∀ s t : State, ControlSound s → step s = .next t → ControlSound t

/-- Every step keeps the DEPTH channel silenced in STANDBY and MANUAL, both channels stopped in TRIPPED, and a fresh
flag exactly with a pending value. -/
def Obligations.StepKeepsChannelsSound : Prop :=
  ∀ s t : State, ChannelsSound s → step s = .next t → ChannelsSound t

/-- Every step keeps every demand the part holds, pending, held or in the demand memory, at or below P_UMAX. -/
def Obligations.StepKeepsDemandBounded : Prop :=
  ∀ s t : State, DemandBounded s → step s = .next t → DemandBounded t

/-- Every step keeps, of a consistent control state, the ACTIVE bank, a pending profile, the tilt table and the valve maps
as their rules promise, all four in place while a run is open; and it keeps the control state consistent, on which
this rests: in STANDBY no run is open, so OPEN_RUN finds no pending profile. -/
def Obligations.StepKeepsTablesSound : Prop :=
  ∀ s t : State, ControlSound s ∧ TablesSound s → step s = .next t → ControlSound t ∧ TablesSound t

/-- Every step keeps the trace ring within 4,096 records, with exactly the records from the anchor to the tail kept
and the read pointer between them. -/
def Obligations.StepKeepsTraceRing : Prop :=
  ∀ s t : State, TraceSound s → step s = .next t → TraceSound t

/-- Every step keeps the Port D forward queue free of MANUAL_VALVE frames in AUTO, HOLD, SUSPENDED, TEST and
TRIPPED. -/
def Obligations.StepKeepsManualGated : Prop :=
  ∀ s t : State, ManualGated s → step s = .next t → ManualGated t

/-! ## Events, queues, forwarding and the request exchange -/

/-- Latching an event: a latch already set changes nothing; a masked event only sets its latch; an unmasked one with
room in the Port U queue also appends its NOTICE frame; with the queue full the notice is dropped and counted, and
NOTICE_DROP is set, its own notice dropped and counted too when that latch was clear and unmasked. -/
def Obligations.EventLatching : Prop :=
  ∀ (e : Event) (b : Option BeamCode) (c : Nat) (s : State),
    let n := eventNo e
    let set (w : BitVec 28) : BitVec 28 := w ||| (1 <<< n)
    let notice : CanFrame :=
      ⟨.ext (identOf 4 0x42 63 s.node 0), .data .fd,
        [byte n, flagByte b.isSome, (b.map beamByte).getD 0] ++ bytes4 c ++ bytes4 s.now.ms.toNat ++ [0]⟩
    (s.events.latches.getLsbD n = true → latch e b c s = s) ∧
    (s.events.latches.getLsbD n = false → s.events.mask.getLsbD n = true →
      latch e b c s = { s with events := ⟨set s.events.latches, s.events.mask⟩ }) ∧
    (s.events.latches.getLsbD n = false → s.events.mask.getLsbD n = false → s.portU.queue.length < 32 →
      latch e b c s = { s with
        events := ⟨set s.events.latches, s.events.mask⟩
        portU := ⟨s.portU.queue ++ [⟨notice, false⟩], s.portU.sent⟩ }) ∧
    (s.events.latches.getLsbD n = false → s.events.mask.getLsbD n = false → 32 ≤ s.portU.queue.length →
      latch e b c s = { s with
        events := ⟨set s.events.latches ||| (1 <<< 27), s.events.mask⟩
        counters := { s.counters with noticeDropped := min 65535 (s.counters.noticeDropped +
          (if e = .noticeDrop ∨ s.events.latches.getLsbD 27 = true ∨ s.events.mask.getLsbD 27 = true
            then 1 else 2)) } })

/-- The one reply to a request joins the end of the Port U queue: priority 5, class 0x41, to the requester with its
tag, code, status, control state after the request, body length, body with OK and CLAMPED alone, then zeros up to
a CAN FD length. At a full queue REPLY_DROPPED adds 1 and everything else stands. -/
def Obligations.ReplyJoinsQueue : Prop :=
  ∀ (code : Byte) (r : Request) (a : Answer),
    let body := if a.status = .ok ∨ a.status = .clamped then a.body else []
    let layout := [code, byte (statusCode a.status), byte (stateCode a.state.ctl.state), byte body.length] ++ body
    let reply : CanFrame :=
      ⟨.ext (identOf 5 0x41 r.src a.state.node r.tag), .data .fd,
        layout ++ List.replicate (fdLength layout.length - layout.length) 0⟩
    sendReply code r a =
      if a.state.portU.queue.length < 32 then
        { a.state with portU := ⟨a.state.portU.queue ++ [⟨reply, false⟩], a.state.portU.sent⟩ }
      else { a.state with counters := { a.state.counters with
        replyDropped := min 65535 (a.state.counters.replyDropped + 1) } }

/-- A forwarded frame joins the end of the other port's queue, 16 frames to Port D and 32 to Port U; at a full queue
its counter adds 1, FORWARD_DROP is latched, and the queue is as it was. -/
def Obligations.ForwardedFrameJoinsQueue : Prop :=
  ∀ (f : CanFrame) (s : State),
    forwardFrom .u f s = (if s.portD.queue.length < 16 then
        { s with portD := { s.portD with queue := s.portD.queue ++ [f] } }
      else latch .forwardDrop none s.chain.s { s with counters := { s.counters with
        fwdDropUD := min 65535 (s.counters.fwdDropUD + 1) } }) ∧
    forwardFrom .d f s = (if s.portU.queue.length < 32 then
        { s with portU := { s.portU with queue := s.portU.queue ++ [⟨f, false⟩] } }
      else latch .forwardDrop none s.chain.s { s with counters := { s.counters with
        fwdDropDU := min 65535 (s.counters.fwdDropDU + 1) } })

/-- A classified frame that no block takes, and before its block takes it a STRIKE or TILT frame of Port U and a SYNC frame
of Port D, is passed or dropped by the matching entry of lowest index, and by P_FWD_DEFAULT when none matches; an entry
matches when it is in use, its ingress is the port or EITHER, and the identifiers agree wherever the mask has a bit. A
request's own frame, as the model rebuilds it (log 8), is decided in the same way. A frame with an 11-bit identifier, or a
classic remote request frame, is decided by P_FWD_DEFAULT alone, whatever the table holds. -/
def Obligations.ForwardingLookup : Prop :=
  (∀ (p : Port) (id : Ident) (format : DataFormat) (data : List Byte) (s : State),
    let agrees (e : FwdEntry) : Prop :=
      e.inUse = true ∧ (e.ingress = .either ∨ (e.ingress = .u ∧ p = .u) ∨ (e.ingress = .d ∧ p = .d)) ∧
        ∀ k, e.mask.getLsbD k = true → id.getLsbD k = e.value.getLsbD k
    let f : CanFrame := ⟨.ext id, .data format, data⟩
    let sentOn (a : Action) : State := if a = .pass then forwardFrom p f s else s
    let taken (a : Action) : Prop := ∀ (k : Byte) (g : Arrival),
      (p = .u ∧ (k = 0x21 ∨ k = 0x22)) ∨ (p = .d ∧ k = 0x33) → id = identOf g.prio k g.dest g.src g.tag →
      format = g.format → data = g.data → forwardTaken p k g s = sentOn a
    (∀ (i : Nat) (e : FwdEntry), s.fwd[i]? = some e → agrees e →
      (∀ (j : Nat) (e' : FwdEntry), j < i → s.fwd[j]? = some e' → ¬ agrees e') →
      exec (.forwardedFrame p id format data) s = .next (sentOn e.action) ∧ taken e.action ∧
      (∀ (dest : BitVec 6) (code : Byte) (r : Request), p = .u → id = identOf r.prio 0x40 dest r.src r.tag →
        format = r.format → data = code :: r.len :: r.rest → forwardRequest dest code r s = sentOn e.action)) ∧
    ((∀ e ∈ s.fwd, ¬ agrees e) →
      exec (.forwardedFrame p id format data) s = .next (sentOn s.params.fwdDefault) ∧ taken s.params.fwdDefault ∧
      (∀ (dest : BitVec 6) (code : Byte) (r : Request), p = .u → id = identOf r.prio 0x40 dest r.src r.tag →
        format = r.format → data = code :: r.len :: r.rest →
        forwardRequest dest code r s = sentOn s.params.fwdDefault))) ∧
  (∀ (p : Port) (f : CanFrame) (s : State),
    exec (.unclassifiedFrame p f) s =
      .next (if s.params.fwdDefault = .pass then forwardFrom p f s else s))

/-- Frames of the wrong form: a STRIKE of fewer than 5 bytes, of a beam code above 3, of an undefined kind, or SINGLE
with a position outside ±255; a TILT of fewer than 3 bytes or outside ±9,000; a MANUAL_VALVE of fewer than 3 bytes,
of an undefined direction, or of a demand above 10,000; a MGMT_REQ to the node without a whole header. Each adds
1 to MALFORMED and changes nothing else. -/
def Obligations.MalformedFramesAreDropped : Prop :=
  ∀ (f : Arrival) (s : State),
    let t : State := { s with counters := { s.counters with malformed := min 65535 (s.counters.malformed + 1) } }
    let at_ (k : Nat) : Byte := f.data.getD k 0
    (f.data.length < 5 ∨ 3 < (at_ 0).toNat ∨ 3 < (at_ 1).toNat ∨
        (at_ 1 = 0 ∧ 255 < (int2 (at_ 2) (at_ 3)).natAbs) → exec (.strike f) s = .next t) ∧
    (f.data.length < 3 ∨ 9000 < (int2 (at_ 0) (at_ 1)).natAbs → exec (.tilt f) s = .next t) ∧
    (f.data.length < 3 ∨ 2 < (at_ 0).toNat ∨ 10000 < word2 (at_ 1) (at_ 2) →
      exec (.manualValve f) s = .next t) ∧
    (∀ (prio : BitVec 3) (src tag : BitVec 6) (format : DataFormat) (b : Option Byte),
      exec (.mgmtReqShortHeader prio src tag format b) s = .next t)

/-- Requests refused before their owner's checks: an unknown code is answered UNKNOWN; a declared length other than the
code's, or too few bytes for it, MALFORMED; a LOAD_ENTRY with no session open SEQUENCE whatever its length, and one
of the wrong length for the session's kind MALFORMED. Each changes nothing beyond the forwarding of its frame and
its reply. -/
def Obligations.RequestsRefusedByForm : Prop :=
  (∀ (code : Byte) (r : Request) (s : State),
    exec (.unknownRequest code r) s = answered code r s (refuse .unknown)) ∧
  (∀ (c : Instr) (code : Byte) (n : Nat) (r : Request) (s : State), fixedRequest c = some (code, n, r) →
    (r.len.toNat ≠ n ∨ r.rest.length < n) → exec c s = answered code r s (refuse .malformed)) ∧
  (∀ (r : Request) (s : State), s.store.session = none →
    exec (.loadEntry r) s = answered codeLoadEntry r s (refuse .sequence)) ∧
  (∀ (r : Request) (s : State) (sn : Session), s.store.session = some sn →
    (r.len.toNat ≠ entryLength sn.kind ∨ r.rest.length < entryLength sn.kind) →
    exec (.loadEntry r) s = answered codeLoadEntry r s (refuse .malformed))

/-- IDENTIFY, to the node or broadcast, in every control state: OK with vendor code 0x5B, part code 410, revision 1 and
the node number, and nothing changes beyond the forwarding of its frame, under the destination it arrived with, and
its reply; of a wrong length it is answered MALFORMED. -/
def Obligations.IdentifyRequest : Prop :=
  ∀ (broadcast : Bool) (r : Request) (s : State),
    let t := forwardRequest (if broadcast then 63 else s.node) 0x01 r s
    (Carries r [] → exec (.identify broadcast r) s =
      .next (sendReply 0x01 r ⟨.ok, [0x5B, 0x01, 0x9A, 0x01, s.node.setWidth 8], t⟩)) ∧
    (r.len ≠ 0 → exec (.identify broadcast r) s = .next (sendReply 0x01 r ⟨.malformed, [], t⟩))

/-- Port U takes the oldest frame of its queue, which BURST streaming may refill, and the departure of the marked reset
reply carries out the master reset; the Port D arbiter takes the DEPTH slot first, then the TRAVEL slot, then the
oldest forwarded frame. The record of the frame each port took last is the model's own (log 6), and so is that a turn
with nothing waiting changes nothing (log 20). -/
def Obligations.PortsTakeFrames : Prop :=
  ∀ s : State,
    (∀ (q : QueuedU) (rest : List QueuedU), s.portU.queue = q :: rest →
      exec .portUFrameDeparture s =
        (let t := burst { s with portU := ⟨rest, some q.frame⟩ }
         .next (if q.resetReply then masterReset t else t))) ∧
    (s.portU.queue = [] → exec .portUFrameDeparture s = .next s) ∧
    (∀ f, s.portD.depthSlot = some f → exec .arbiterTakesFrame s =
      .next { s with portD := { s.portD with depthSlot := none, sent := some f } }) ∧
    (∀ f, s.portD.depthSlot = none → s.portD.travelSlot = some f → exec .arbiterTakesFrame s =
      .next { s with portD := { s.portD with travelSlot := none, sent := some f } }) ∧
    (∀ f rest, s.portD.depthSlot = none → s.portD.travelSlot = none → s.portD.queue = f :: rest →
      exec .arbiterTakesFrame s = .next { s with portD := { s.portD with queue := rest, sent := some f } }) ∧
    (s.portD.depthSlot = none → s.portD.travelSlot = none → s.portD.queue = [] →
      exec .arbiterTakesFrame s = .next s)

/-! ## The functions of the measured depth, the design target, the demand and the valve maps -/

/-- Rounding half away from zero gives the integer nearest to n / d, and at an exact half the one of greater magnitude.
The tilt correction: with x = θ + 1,200 = 100 i + f, the last entry at i = 24 and else C_i plus the rounded part
f / 100 of the way to C_{i+1}; it lies between the two entries, and is C_i at f = 0. -/
def Obligations.TiltCorrectionInterpolates : Prop :=
  (∀ (n : Int) (d : Nat), 0 < d →
     2 * ((d : Int) * roundDiv n d - n).natAbs ≤ d ∧
     (2 * ((d : Int) * roundDiv n d - n).natAbs = d → n.natAbs < ((d : Int) * roundDiv n d).natAbs)) ∧
  (∀ (table : List Int) (theta : Int) (i f : Nat), table.length = 25 →
     theta + 1200 = 100 * (i : Int) + f → f < 100 →
     (∀ a, i = 24 → f = 0 → table[24]? = some a → correction table theta = a) ∧
     (∀ a b, table[i]? = some a → table[i + 1]? = some b →
       correction table theta = a + roundDiv ((b - a) * f) 100 ∧
       min a b ≤ correction table theta ∧ correction table theta ≤ max a b ∧
       (f = 0 → correction table theta = a)))

/-- The measured depth: with an entry in REFERENCE or FADING that holds a beam height, and a tilt table, it is
b + O + P_MAST + C with that entry's beam code; without one of the three it is absent. It is fresh exactly when the
time since the strike that set b, modulo 2^32, is at most P_STRIKE_TMO. -/
def Obligations.MeasuredDepthThroughReference : Prop :=
  ∀ s : State, BeamsSound s →
    (∀ (c : BeamCode) (h : Height) (o : Int) (table : List Int),
      (beam s c).state = .reference ∨ (beam s c).state = .fading → (beam s c).accepted = some h →
      (beam s c).offset = some o → s.store.tiltTable = some table →
      measured s = some (h.b + o + s.params.mast + correction table s.tilt.theta, c) ∧
      (freshBeam (beam s c) s = true ↔ age s.now.ms h.time ≤ s.params.strikeTmo)) ∧
    ((∀ c, (beam s c).state ≠ .reference ∧ (beam s c).state ≠ .fading) → measured s = none) ∧
    (s.store.tiltTable = none → measured s = none)

/-- Base offsets: B_0 = 0 and B_{k+1} = B_k + (g_k − g_B) × (s_{k+1} − s_k) + d_{k+1} × 10,000, an absent step read
as 0, one for each entry. -/
def Obligations.BaseOffsetsOfEntries : Prop :=
  ∀ (g : Int) (l : List ProfileEntry),
    (baseOffsets g l).length = l.length ∧
    (∀ b, (baseOffsets g l)[0]? = some b → b = 0) ∧
    (∀ (k : Nat) (e e' : ProfileEntry) (b b' : Int),
      l[k]? = some e → l[k + 1]? = some e' →
      (baseOffsets g l)[k]? = some b → (baseOffsets g l)[k + 1]? = some b' →
      b' = b + (e.grade - g) * ((e'.start : Int) - e.start) + e'.step.getD 0 * 10000)

/-- At every chainage a sound bank has one segment, the entry of the greatest start at or below it; the design target is
(B_k + (g_k − g_B)(s − s_k)) / 10,000 rounded half away from zero and saturated to ±20,000, and the speed cap is
that entry's; an empty bank has no target. -/
def Obligations.DesignTargetOfSegment : Prop :=
  (∀ (bank : Bank) (at_ k : Nat) (e : ProfileEntry) (b : Int), BankSound bank →
    bank.entries[k]? = some e → bank.offsets[k]? = some b → e.start ≤ at_ →
    (∀ e', bank.entries[k + 1]? = some e' → at_ < e'.start) →
    (let q := roundDiv (b + (e.grade - bank.basis) * ((at_ : Int) - e.start)) 10000
     targetAt bank at_ = some (if q < -20000 then -20000 else if 20000 < q then 20000 else q) ∧
     (targetSaturates bank at_ = true ↔ q < -20000 ∨ 20000 < q) ∧
     capAt bank at_ = e.cap)) ∧
  (∀ (bank : Bank) (at_ : Nat), BankSound bank → bank.entries ≠ [] →
    ∃ (k : Nat) (e : ProfileEntry) (b : Int), bank.entries[k]? = some e ∧ bank.offsets[k]? = some b ∧
      e.start ≤ at_ ∧ (∀ e', bank.entries[k + 1]? = some e' → at_ < e'.start)) ∧
  (∀ (bank : Bank) (at_ : Nat), bank.entries = [] → targetAt bank at_ = none)

/-- The current of a demand u of 1 to 10,000 in a valid map: with j the lowest index with d_j ≤ u ≤ d_{j+1},
i_j + (i_{j+1} − i_j)(u − d_j) / (d_{j+1} − d_j), the quotient rounded half away from zero; it lies between i_j and
i_{j+1}. -/
def Obligations.ValveMapInterpolates : Prop :=
  ∀ (m : List MapPoint) (u : Nat), mapValid m = true → 1 ≤ u → u ≤ 10000 →
    ∃ (j : Nat) (a b : MapPoint) (i : Nat), m[j]? = some a ∧ m[j + 1]? = some b ∧ a.d ≤ u ∧ u ≤ b.d ∧
      (∀ (k : Nat) (x y : MapPoint), k < j → m[k]? = some x → m[k + 1]? = some y → ¬ (x.d ≤ u ∧ u ≤ y.d)) ∧
      mapCurrent m u = some i ∧
      (i : Int) = a.i + roundDiv (((b.i : Int) - a.i) * ((u : Int) - a.d)) (b.d - a.d) ∧
      a.i ≤ i ∧ i ≤ b.i

/-- The demand law and the slew limit: raw demand 0 within P_WINDOW, beyond it of magnitude
min (P_UMAX, P_UMIN + P_GAIN (|E| − P_WINDOW)) with the sign of E; the slew limit's five rows; and with P_UMAX
bounding raw demand and memory it bounds the demand. -/
def Obligations.DemandLawAndSlewLimit : Prop :=
  (∀ (e : Int) (p : Params),
    (e.natAbs ≤ p.window → rawDemand e p = 0) ∧
    (p.window < e.natAbs →
      (rawDemand e p).natAbs = min p.umax (p.umin + p.gain * (e.natAbs - p.window)) ∧
      (0 < e → 0 ≤ rawDemand e p) ∧ (e < 0 → rawDemand e p ≤ 0))) ∧
  (∀ (raw prev : Int) (slew : Nat),
    let u := slewLimit raw prev slew
    (raw = 0 → u = 0) ∧
    (raw ≠ 0 → prev = 0 → u.natAbs = min raw.natAbs slew ∧ (0 < raw → 0 ≤ u) ∧ (raw < 0 → u ≤ 0)) ∧
    (0 < raw * prev → prev.natAbs < raw.natAbs →
      u.natAbs = min raw.natAbs (prev.natAbs + slew) ∧ 0 < u * raw) ∧
    (0 < raw * prev → raw.natAbs ≤ prev.natAbs → u = raw) ∧
    (raw * prev < 0 → u = 0) ∧ u.natAbs ≤ raw.natAbs)

/-- The travel limit: 10,000 within P_E_SLOW, beyond it the larger of P_L_MIN and
10,000 − P_K_TRAVEL (|E| − P_E_SLOW); a speed cap below it bounds it with reason SEGMENT_CAP, and else the reason is
ERROR below 10,000 and NONE at 10,000. -/
def Obligations.TravelLimitLaw : Prop :=
  (∀ (e : Int) (p : Params),
    (e.natAbs ≤ p.eSlow → errorLimit e p = 10000) ∧
    (p.eSlow < e.natAbs →
      (errorLimit e p : Int) = max (p.lMin : Int) (10000 - (p.kTravel : Int) * (e.natAbs - p.eSlow)))) ∧
  (∀ (l c : Nat), c < l → cappedLimit l (some c) = ⟨c, .segmentCap⟩) ∧
  (∀ (l : Nat) (cap : Option Nat), (∀ c, cap = some c → l ≤ c) →
    cappedLimit l cap = ⟨l, if l < 10000 then .error else .none⟩)

/-! ## Strikes, tilt and the beam table -/

/-- A MULTI strike is rejected whatever it carries: MULTI_REJECTS adds 1, the sequence record takes the frame's number
after the gap check, and the beam's entry, the control state and the channels are otherwise as they were. The
reject that carries the reject sum above P_REJECT_THRESH latches REJECT_THRESHOLD; that it does so from a sum equal to
the threshold, also after a write that made them equal, is the model's choice (log 35). -/
def Obligations.MultiStrikeIsRejected : Prop :=
  ∀ (f : Arrival) (s : State) (c : BeamCode) (hi lo n : Byte) (rest : List Byte),
    f.data = beamByte c :: 3 :: hi :: lo :: n :: rest →
    let t := forwardTaken .u 0x21 f s
    let missing := ((beam s c).seq.map (fun q => (n - q - 1).toNat)).getD 0
    let u : State := if missing = 0 then t else
      latch .strikeGap (some c) s.chain.s { t with counters := { t.counters with
        strikeGaps := min 65535 (t.counters.strikeGaps + missing) } }
    let v := setBeam c { beam s c with seq := some n } u
    let w : State := { v with counters := { v.counters with
      multiRejects := min 65535 (v.counters.multiRejects + 1) } }
    let sum (x : State) : Nat := x.counters.jumpRejects + x.counters.multiRejects
    exec (.strike f) s = .next
      (if sum v ≤ s.params.rejectThresh ∧ s.params.rejectThresh < sum w then
        latch .rejectThreshold (some c) s.chain.s w else w)

/-- A SINGLE of an ESTABLISHED entry, or of the entry in REFERENCE when it starts no computation: within P_JUMP of the
last height, or with none, it is accepted; beyond it, it counts a reject, and the reject that reaches P_JUMPN
rebases. One rejected moves no ESTABLISHED, TRACKING or REFERENCE entry and reaches neither the control computation nor
the test, in AUTO neither. An EDGE strike sets the last strike time alone, of a TRACKING entry too. What was accepted
and every EDGE strike then goes to a test of the beam. The reject at a threshold equal to the sum is the model's choice
(log 35). -/
def Obligations.JumpFilter : Prop :=
  ∀ (f : Arrival) (s : State) (c : BeamCode) (k hi lo n : Byte) (rest : List Byte),
    f.data = beamByte c :: k :: hi :: lo :: n :: rest →
    let u := strikeSeen f c n s
    let e := beam s c
    let b := roundDiv (int2 hi lo * s.params.pitch) 4
    let v := jumpCounted c u
    let still := e.state = .established ∨ (e.state = .reference ∧ s.ctl.state ≠ .auto)
    (k = 0 → (int2 hi lo).natAbs ≤ 255 →
      (still → ∀ r w, HeightAccepted f c n b s r w → exec (.strike f) s = .next (handTestStrike c r w)) ∧
      (e.state = .established ∨ e.state = .tracking ∨ e.state = .reference →
        nearLast c b s = false → e.rejects + 1 < s.params.jumpn →
        exec (.strike f) s = .next (setBeam c { beam v c with
          rejects := e.rejects + 1, lastStrike := some s.now.ms, fade := none } v))) ∧
    (k = 1 ∨ k = 2 → still ∨ e.state = .tracking →
      exec (.strike f) s = .next (handTestStrike c (if k = 1 then .edgeHigh else .edgeLow)
        (setBeam c { beam u c with lastStrike := some s.now.ms, fade := none } u)))

/-- Acquisition: the first SINGLE accepted, or rebasing, of an UNSEEN or LOST entry makes its good count 1, each further
one of an ACQUIRING entry adds 1, and the one that reaches P_ACQ moves it to TRACKING with BEAM_ACQUIRED. With no
reference, and no run open or the run not benched, the entry then becomes the reference with O = 0, ESTABLISHED
entries go back to TRACKING, every window is emptied, and the demand memory becomes 0. In AUTO the run is benched, so
no reference is chosen. That the entries moved keep their fade time is DEDUCED (log 28). A rejected SINGLE of an
ACQUIRING entry makes its good count 0. The strike then goes to a test of the beam. -/
def Obligations.AcquisitionOfBeam : Prop :=
  (∀ (f : Arrival) (s : State) (c : BeamCode) (hi lo n : Byte) (rest : List Byte),
     f.data = beamByte c :: 0 :: hi :: lo :: n :: rest → (int2 hi lo).natAbs ≤ 255 →
     (beam s c).state = .unseen ∨ (beam s c).state = .lost ∨ (beam s c).state = .acquiring →
     (s.ctl.state = .auto → ControlSound s) →
     ∀ r w, HeightAccepted f c n (roundDiv (int2 hi lo * s.params.pitch) 4) s r w →
     let good := if (beam s c).state = .acquiring then (beam s c).good + 1 else 1
     let x := latch .beamAcquired (some c) s.chain.s (setBeam c { beam w c with state := .tracking, good := 0 } w)
     exec (.strike f) s = .next (handTestStrike c r
       (if good < s.params.acq then setBeam c { beam w c with state := .acquiring, good := good } w
       else if (reference s).isNone ∧ (s.run.isOpen = false ∨ s.run.benched = false) then
         setMemory 0 (setBeam c { beam x c with state := .reference, offset := some 0, window := [] }
           (mapBeams (fun e => if e.state = .established then
             { e with state := .tracking, offset := none, window := [] } else { e with window := [] }) x))
       else x))) ∧
  (∀ (f : Arrival) (s : State) (c : BeamCode) (k hi lo n : Byte) (rest : List Byte),
     f.data = beamByte c :: k :: hi :: lo :: n :: rest →
     let u := strikeSeen f c n s
     let e := beam s c
     let b := roundDiv (int2 hi lo * s.params.pitch) 4
     let edge (x : State) : State := handTestStrike c (if k = 1 then .edgeHigh else .edgeLow) x
     (k = 1 ∨ k = 2 → e.state = .unseen ∨ e.state = .lost →
       exec (.strike f) s = .next (edge (setBeam c { beam u c with
         state := .acquiring, good := 0, lastStrike := some s.now.ms, fade := none } u))) ∧
     (k = 1 ∨ k = 2 → e.state = .acquiring →
       exec (.strike f) s = .next (edge (setBeam c { beam u c with
         lastStrike := some s.now.ms, fade := none } u))) ∧
     (k = 0 → (int2 hi lo).natAbs ≤ 255 → e.state = .acquiring →
       nearLast c b s = false → e.rejects + 1 < s.params.jumpn →
       (let v := jumpCounted c u
        exec (.strike f) s = .next (setBeam c { beam v c with
         good := 0, rejects := e.rejects + 1, lastStrike := some s.now.ms, fade := none } v))))

/-- Offset estimation: a SINGLE accepted, or rebasing, of a TRACKING entry within P_PAIR of the reference's accepted strike
appends (b_X + O_X) − b_Y. The sample that fills the window with P_OFS_N has it judged: a spread of at most P_OFS_TOL
makes the entry ESTABLISHED with the mean, rounded half away from zero and clamped to ±6,400; a wider one empties it.
With the reference in FADING, or with none, no sample is taken. The strike then goes to a test of the beam. -/
def Obligations.OffsetEstimation : Prop :=
  ∀ (f : Arrival) (s : State) (c : BeamCode) (hi lo n : Byte) (rest : List Byte),
    f.data = beamByte c :: 0 :: hi :: lo :: n :: rest → (int2 hi lo).natAbs ≤ 255 →
    (beam s c).state = .tracking →
    let b := roundDiv (int2 hi lo * s.params.pitch) 4
    ∀ r w, HeightAccepted f c n b s r w →
    ((∀ x, (beam s x).state ≠ .reference) → exec (.strike f) s = .next (handTestStrike c r w)) ∧
    (∀ (x : BeamCode) (h : Height) (o : Int), BeamsSound s → (beam s x).state = .reference →
      (beam s x).accepted = some h → (beam s x).offset = some o →
      let window := (beam s c).window ++ [h.b + o - b]
      (s.params.pair < age s.now.ms h.time → exec (.strike f) s = .next (handTestStrike c r w)) ∧
      (age s.now.ms h.time ≤ s.params.pair → window.length ≠ s.params.ofsN →
        exec (.strike f) s = .next (handTestStrike c r (setBeam c { beam w c with window := window } w))) ∧
      (age s.now.ms h.time ≤ s.params.pair → window.length = s.params.ofsN →
        ∀ least most : Int, least ∈ window → most ∈ window → (∀ y ∈ window, least ≤ y ∧ y ≤ most) →
          exec (.strike f) s = .next (handTestStrike c r
            (if most - least ≤ s.params.ofsTol then
              (let mean := roundDiv window.sum s.params.ofsN
               latch .offsetEstablished (some c) s.chain.s (setBeam c { beam w c with
                state := .established, window := []
                offset := some (if mean < -6400 then -6400 else if 6400 < mean then 6400 else mean) } w))
            else latch .offsetUnstable (some c) s.chain.s (setBeam c { beam w c with window := [] } w)))))

/-- A reference strike in AUTO computes. A SINGLE accepted, or rebasing: E = b + O + P_MAST + C − (D_set + T), the demand
by the demand law and the slew limit from the demand memory, the travel limit with the segment's cap, both written, the
off-column indication cleared. An EDGE strike: raw demand ±P_UMAX, limit from P_L_MIN, OFF_COLUMN latched, the
indication set. -/
def Obligations.ReferenceStrikeInAuto : Prop :=
  ∀ (f : Arrival) (s : State) (c : BeamCode) (k hi lo n : Byte) (rest : List Byte) (o target : Int)
    (table : List Int),
    f.data = beamByte c :: k :: hi :: lo :: n :: rest → BeamsSound s → s.ctl.state = .auto →
    (beam s c).state = .reference → (beam s c).offset = some o → s.store.tiltTable = some table →
    targetAt s.store.active s.chain.s = some target →
    let u := strikeSeen f c n s
    let cap := capAt s.store.active s.chain.s
    let finish (x : State) (raw : Int) (limit : Nat) (off : Bool) : State :=
      let d := slewLimit raw s.ctl.memory s.params.slew
      writeTravel (cappedLimit limit cap)
        (writeDepth
          (if d = 0 then .neutral else .demand (if 0 < d then .raise else .lower) d.natAbs)
          { x with ctl := { s.ctl with memory := d, offColumn := off } })
    let b := roundDiv (int2 hi lo * s.params.pitch) 4
    (k = 0 → (int2 hi lo).natAbs ≤ 255 → ∀ r w, HeightAccepted f c n b s r w →
      (let e := b + o + s.params.mast + correction table s.tilt.theta - (s.run.dSet + target)
       exec (.strike f) s = .next (handTestStrike c r (finish
        (if targetSaturates s.store.active s.chain.s then latch .targetSaturated none s.chain.s w else w)
        (rawDemand e s.params) (errorLimit e s.params) false)))) ∧
    (k = 1 ∨ k = 2 →
      (let w := setBeam c { beam u c with lastStrike := some s.now.ms, fade := none } u
       exec (.strike f) s = .next (handTestStrike c (if k = 1 then .edgeHigh else .edgeLow)
        (finish (latch .offColumn (some c) s.chain.s w)
          (if k = 1 then s.params.umax else -(s.params.umax : Int)) s.params.lMin true))))

/-- A FADING entry: a SINGLE accepted, or rebasing, or an EDGE strike returns it to REFERENCE; in HOLD the state becomes
AUTO with demand memory 0, waiting MANUAL_VALVE frames discarded, before the strike goes on as a reference strike, and
then to a test of the beam. A rejected SINGLE leaves it FADING and keeps the fade time. -/
def Obligations.FadingReferenceReturns : Prop :=
  ∀ (f : Arrival) (s : State) (c : BeamCode) (k hi lo n : Byte) (rest : List Byte),
    f.data = beamByte c :: k :: hi :: lo :: n :: rest → (beam s c).state = .fading →
    let u := strikeSeen f c n s
    let b := roundDiv (int2 hi lo * s.params.pitch) 4
    let back (w : State) : State := setBeam c { beam w c with state := .reference, fade := none } w
    let auto (w : State) : State := discardManualValve
      { w with ctl := { w.ctl with state := .auto, memory := 0, offColumn := false } }
    let handed (r : StrikeResult) (w : State) : State := handTestStrike c r
      (if s.ctl.state = .hold then referenceStrike c r (auto (back w))
      else if s.ctl.state = .auto then referenceStrike c r (back w) else back w)
    (k = 0 → (int2 hi lo).natAbs ≤ 255 → ∀ r w, HeightAccepted f c n b s r w →
      exec (.strike f) s = .next (handed r w)) ∧
    (k = 1 ∨ k = 2 →
      exec (.strike f) s = .next (handed (if k = 1 then .edgeHigh else .edgeLow)
        (setBeam c { beam u c with lastStrike := some s.now.ms } u))) ∧
    (k = 0 → (int2 hi lo).natAbs ≤ 255 → nearLast c b s = false → (beam s c).rejects + 1 < s.params.jumpn →
      (let v := jumpCounted c u
       exec (.strike f) s = .next (setBeam c { beam v c with
        rejects := (beam s c).rejects + 1, lastStrike := some s.now.ms } v)))

/-- A well-formed TILT frame holds its tilt clamped to ±1,200, makes the record fresh at its arrival, and latches
TILT_RANGE when it lay outside. The expiry of a fresh record older than P_TILT_TMO makes it stale and latches
TILT_STALE, and keeps the held tilt; before that moment it changes nothing (log 3). -/
def Obligations.TiltRecord : Prop :=
  (∀ (f : Arrival) (s : State) (hi lo q : Byte) (rest : List Byte), f.data = hi :: lo :: q :: rest →
    (int2 hi lo).natAbs ≤ 9000 →
    let t := forwardTaken .u 0x22 f s
    let held (v : Int) : State := { t with tilt := ⟨v, some s.now.ms, true⟩ }
    exec (.tilt f) s = .next
      (if 1200 < int2 hi lo then latch .tiltRange none s.chain.s (held 1200)
      else if int2 hi lo < -1200 then latch .tiltRange none s.chain.s (held (-1200))
      else held (int2 hi lo))) ∧
  (∀ s : State, exec .tiltExpiry s = .next
    (if s.tilt.fresh && s.tilt.arrival.any (fun t => s.params.tiltTmo < age s.now.ms t) then
      latch .tiltStale none s.chain.s { s with tilt := { s.tilt with fresh := false } }
    else s))

/-- The strike timeout of an ACQUIRING, TRACKING or ESTABLISHED entry, more than P_STRIKE_TMO after its last strike and
after any fade time: the entry moves to LOST without offset, samples, good count, fade time, height or reject count,
BEAM_LOST is latched, and a test of that beam ends. Before that moment, and in any other state, nothing changes
(log 3). -/
def Obligations.StrikeTimeout : Prop :=
  ∀ (c : BeamCode) (s : State),
    let e := beam s c
    let due := (e.state = .acquiring ∨ e.state = .tracking ∨ e.state = .established) ∧
      e.lastStrike.any (fun t => s.params.strikeTmo < age s.now.ms t) = true ∧
      e.fade.all (fun t => s.params.strikeTmo < age s.now.ms t) = true
    let lost := latch .beamLost (some c) s.chain.s (setBeam c
      ⟨e.seq, none, 0, e.lastStrike, .lost, 0, none, [], none⟩ s)
    exec (.strikeTimeout c) s = .next
      (if due then (if (testRun s).any (fun t => t.beam = c) then endTest .noBeam lost else lost) else s)

/-- The first expiry of the reference: REFERENCE becomes FADING with this moment as fade time and REFERENCE_FADING; in
AUTO the state becomes HOLD with d_H 0, NEUTRAL and P_L_HOLD are written and HOLD_ENTERED latched. With no entry in
REFERENCE, or before that moment, nothing changes (log 3). -/
def Obligations.ReferenceTimeout : Prop :=
  ∀ (c : BeamCode) (s : State), BeamsSound s →
    ((beam s c).state = .reference →
      (let e := beam s c
       let due := e.lastStrike.any (fun t => s.params.strikeTmo < age s.now.ms t) = true ∧
        e.fade.all (fun t => s.params.strikeTmo < age s.now.ms t) = true
       let v := latch .referenceFading (some c) s.chain.s
        (setBeam c { e with state := .fading, fade := some s.now.ms } s)
       exec .referenceTimeout s = .next
        (if due then
          (if s.ctl.state = .auto then
            latch .holdEntered (some c) s.chain.s (writeTravel ⟨s.params.lHold, .hold⟩ (writeDepth .neutral
              { v with
                chain := { s.chain with dH := 0 }
                ctl := { s.ctl with state := .hold, offColumn := false } }))
          else v)
        else s))) ∧
    ((∀ d, (beam s d).state ≠ .reference) → exec .referenceTimeout s = .next s)

/-- The second expiry of the reference: FADING becomes LOST with BEAM_LOST, a test of that beam ends right then (its place
before the handover is the model's choice, log 10), every window is emptied and the demand memory becomes 0, also on
the way from HOLD to SUSPENDED, where one table of the spec keeps it (DEDUCED, log 40). With
P_AUTO_HANDOVER 1 the ESTABLISHED entry whose accepted strike is latest, the lower code at a tie, becomes the reference
with HANDOVER_DONE, and HOLD becomes AUTO; with none, HOLD becomes SUSPENDED. Before its moment, or with no entry in
FADING, nothing changes (log 3). -/
def Obligations.FadingTimeout : Prop :=
  (∀ (c : BeamCode) (s : State), BeamsSound s → (beam s c).state = .fading →
    let e := beam s c
    let due := e.lastStrike.any (fun t => s.params.strikeTmo < age s.now.ms t) = true ∧
      e.fade.all (fun t => s.params.strikeTmo < age s.now.ms t) = true
    let lost := latch .beamLost (some c) s.chain.s (setBeam c
      ⟨e.seq, none, 0, e.lastStrike, .lost, 0, none, [], none⟩ s)
    let ended := if (testRun s).any (fun t => t.beam = c) then endTest .noBeam lost else lost
    let v := setMemory 0 (mapBeams (fun e => { e with window := [] }) ended)
    let established (d : BeamCode) : Prop := (beam s d).state = .established
    let ageOf (d : BeamCode) : Nat := (((beam s d).accepted.map (fun h => age s.now.ms h.time)).getD 0)
    (¬ due → exec .fadingTimeout s = .next s) ∧
    (due → s.params.autoHandover ≠ 1 ∨ (∀ d, ¬ established d) →
      exec .fadingTimeout s = .next
        (if v.ctl.state = .hold then
          latch .suspended none s.chain.s (writeTravel ⟨0, .suspended⟩ (writeDepth .neutral
            { v with ctl := { v.ctl with state := .suspended } }))
        else v)) ∧
    (due → s.params.autoHandover = 1 → ∀ y, established y →
      (∀ d, established d → d ≠ y → ageOf y < ageOf d ∨ (ageOf y = ageOf d ∧ beamNat y < beamNat d)) →
      (let w := latch .handoverDone (some y) s.chain.s
        (setBeam y { beam v y with state := .reference, fade := none } v)
       exec .fadingTimeout s = .next
        (if v.ctl.state = .hold then
          discardManualValve { w with ctl := { v.ctl with state := .auto, memory := 0, offColumn := false } }
        else w)))) ∧
  (∀ s : State, (∀ d, (beam s d).state ≠ .fading) → exec .fadingTimeout s = .next s)


/-! ## Lines, chainage, trace and the trip -/

/-- The line filters: a level back at the accepted state discards the candidate, also at the very moment its filter time
completes (the model's choice, log 33); a level away from it starts one where none is held, and one told again keeps
the one held (log 21). After the filter time DIR, DIG and a STOP release change the accepted state and nothing else,
and before it nothing changes (log 3). An ODO filter of 0 accepts at the moment of the change. -/
def Obligations.LineFilters : Prop :=
  ∀ s : State,
    (∀ (l : Line) (high : Bool),
      let f := lineOf s l
      let active := if l = .stop then !high else high
      let moved (since : Option Clock) : State := setLine l ⟨high, f.active, since⟩ s
      (active = f.active → exec (.lineLevelChange l high) s = .next (moved none)) ∧
      (active ≠ f.active → f.since.isSome = true → exec (.lineLevelChange l high) s = .next (moved f.since)) ∧
      (active ≠ f.active → f.since = none → ¬ (l = .odo ∧ s.params.odoFilt = 0) →
        exec (.lineLevelChange l high) s = .next (moved (some s.now))) ∧
      (active ≠ f.active → f.since = none → l = .odo → s.params.odoFilt = 0 →
        exec (.lineLevelChange l high) s = exec .acceptedOdoEdge (moved (some s.now)))) ∧
    (let f := s.lines.dir
     exec .acceptedDirChange s = .next
      (if f.since.any (fun t => s.params.dirFilt ≤ age s.now.ms t.ms) then
        { s with lines := { s.lines with dir := ⟨f.high, !f.active, none⟩ } } else s)) ∧
    (let f := s.lines.dig
     exec .acceptedDigChange s = .next
      (if f.since.any (fun t => s.params.digFilt ≤ age s.now.ms t.ms) then
        { s with lines := { s.lines with dig := ⟨f.high, !f.active, none⟩ } } else s)) ∧
    (let f := s.lines.stop
     exec .stopRelease s = .next
      (if f.active = true ∧ f.since.any (fun t => s.params.stopFilt ≤ age s.now.ms t.ms) = true then
        { s with lines := { s.lines with stop := ⟨f.high, false, none⟩ } } else s))

/-- An accepted ODO edge. Not selected by P_ODO_EDGE, it changes the accepted state alone (log 5). Selected, with a run
open, it moves the chainage by whole millimetres with the remainder carried, clamps at 0 and 5,000,000 with
CHAINAGE_LIMIT, takes over a pending profile whose chainage is reached, hands each boundary it crosses forward to the
trace, raises the high-water mark, and in HOLD adds to d_H and suspends beyond P_HOLD_DIST; a running test then ends
ABORTED_TRAVEL. Before the filter time nothing changes (log 3). HOLD_DISTANCE_EXPIRY is such an edge, in HOLD, that
carries d_H beyond P_HOLD_DIST, and at any other moment changes nothing (log 4). -/
def Obligations.OdoEdgeInOrder : Prop :=
  ∀ s : State,
    let f := s.lines.odo
    let due := f.since.any (fun t => s.params.odoFilt ≤ age s.now.ms t.ms * 1000 + s.now.us - t.us) = true
    let selected := s.params.odoEdge = .both ∨ (s.params.odoEdge = .rising ∧ f.active = false) ∨
      (s.params.odoEdge = .falling ∧ f.active = true)
    let forward := s.params.dirPol = .normal ∧ s.lines.dir.active = false ∨
      s.params.dirPol = .inverted ∧ s.lines.dir.active = true
    let u : State := { s with lines := { s.lines with odo := ⟨f.high, !f.active, none⟩ } }
    let total := s.params.odoScale + s.chain.r
    let m := total / 1000
    let x : Int := if forward then (s.chain.s : Int) + m else (s.chain.s : Int) - m
    let s' := (max 0 (min x 5000000)).toNat
    let moved : State := { u with chain := { s.chain with
      s := s', r := if x < 0 ∨ 5000000 < x then 0 else total % 1000, n := s' / s.params.traceStep } }
    let a : State := if forward ∧ 5000000 ≤ x ∨ ¬ forward ∧ x ≤ 0 then
      latch .chainageLimit none s' moved else moved
    let b : State := if s.store.takeover.any (fun t => t ≤ s') then swapped a else a
    let boundary (k : Nat) : Nat := (s.chain.n + 1 + k) * s.params.traceStep
    let crossed : State := (List.range (s' / s.params.traceStep - s.chain.n)).foldl
      (fun t k => crossing (boundary k ≤ s.chain.h) (boundary k) t) b
    let c : State := if forward then
      { crossed with chain := { moved.chain with h := max s.chain.h s' } } else b
    let d : Nat := min 10000000 (s.chain.dH + m)
    let held : State := { c with chain := { c.chain with dH := d } }
    let counted : State := if s.ctl.state = .hold then
      (if s.params.holdDist < d then suspendedEntered held else held) else c
    let w : State := if s.run.isOpen = true then counted else u
    let edge : State := if (testRun s).isSome then endTest .travel w else w
    (¬ due → exec .acceptedOdoEdge s = .next s) ∧
    (due → ¬ selected → exec .acceptedOdoEdge s = .next u) ∧
    (due → selected → exec .acceptedOdoEdge s = .next edge) ∧
    exec .holdDistanceExpiry s = .next
      (if due ∧ selected ∧ s.run.isOpen = true ∧ s.ctl.state = .hold ∧ s.params.holdDist < d then edge else s)

/-- A boundary crossing. With the gate closed nothing happens. With it open the sequence number moves on; at 4,096 held
records the record is dropped, counted, and TRACE_OVERRUN latched; else the record joins the ring with the crossing's
design depth, a fresh measured depth, the control state and the flags, and TRACE_HIGH is latched at P_TRACE_HIGH. Under
BURST two records at a time go out while one is unread and 8 queue entries are free, after that latch (log 11). The
TILT_STALE flag is clear while the tilt record's expiry is due but not yet taken (the model's choice, log 39). -/
def Obligations.TraceCrossing : Prop :=
  (∀ (recut : Bool) (beta : Nat) (s : State),
    let gate := (s.params.traceGate = .line ∧ s.lines.dig.active = true) ∨
      (s.params.traceGate = .software ∧ s.trace.gateOpen = true)
    let held (t : Trace) : Nat := (t.tail - t.mark.getD t.read).toNat
    let u : State := { s with trace := { s.trace with seqNo := s.trace.seqNo + 1 } }
    (¬ gate → crossing recut beta s = s) ∧
    (gate → 4096 ≤ held s.trace → crossing recut beta s =
      latch .traceOverrun none beta { u with counters := { s.counters with
        traceDropped := min 65535 (s.counters.traceDropped + 1) } }) ∧
    (∀ target, gate → held s.trace < 4096 → targetAt s.store.active beta = some target →
      (let x := if targetSaturates s.store.active beta then latch .targetSaturated none beta u else u
       let record : TraceRecord :=
        ⟨s.trace.seqNo, s.run.number, beta, s.run.dSet + target,
          (measured s).filter (fun m => freshBeam (beam s m.2) s), s.ctl.state,
          ⟨recut, s.ctl.offColumn, s.ctl.state = .hold ∨ s.ctl.state = .suspended, s.ctl.state = .manual,
            !s.tilt.fresh, s.travel.last.any (fun v => v.limit < 10000)⟩⟩
       let y : State := { x with trace := { u.trace with
        tail := s.trace.tail + 1, kept := s.trace.kept ++ [record] } }
       crossing recut beta s =
        burst (if held y.trace = s.params.traceHigh then latch .traceHigh none beta y else y)))) ∧
  (∀ s : State,
    (s.params.stream ≠ .burst ∨ ¬ mayStream s → burst s = s) ∧
    (s.params.stream = .burst → mayStream s → burst s = burst (recordsSent s)))

/-- A STOP that its filter accepts trips the part from any state: a running test ends with ABORTED_STOP, the state becomes
TRIPPED, waiting MANUAL_VALVE frames are discarded, both pending values are dropped, NEUTRAL and TRAVEL 0 with reason
TRIPPED are emitted at once, and TRIPPED is latched. Before the filter time nothing changes (log 3). -/
def Obligations.StopTrips : Prop :=
  ∀ s : State,
    let f := s.lines.stop
    let u : State := { s with lines := { s.lines with stop := ⟨f.high, true, none⟩ } }
    let stopped (v : State) : State := latch .tripped none s.chain.s
      (travelSent ⟨0, .tripped⟩ (neutralSent (manualDiscarded { v with
        depth := { s.depth with waiting := none, fresh := false }
        travel := { s.travel with waiting := none, fresh := false }
        ctl := { s.ctl with
          state := .tripped, prior := none
          offColumn := if s.ctl.state = .auto then false else s.ctl.offColumn } })))
    let aborted (t : TestRun) (current : Option Nat) : State :=
      { latch .testDone (some t.beam) s.chain.s u with test := ⟨.idle, resultOf .stop t current s⟩ }
    (f.active = true ∨ ¬ f.since.any (fun t => s.params.stopFilt ≤ age s.now.ms t.ms) = true →
      exec .stopAcceptedActive s = .next s) ∧
    (f.active = false → f.since.any (fun t => s.params.stopFilt ≤ age s.now.ms t.ms) = true →
      (s.test.phase = .idle → exec .stopAcceptedActive s = .next (stopped u)) ∧
      (∀ t, s.test.phase = .waiting t → exec .stopAcceptedActive s = .next (stopped (aborted t none))) ∧
      (∀ t i m m', s.test.phase = .stepping t i m m' →
        exec .stopAcceptedActive s = .next (stopped (aborted t (some i)))))

/-! ## The run and control unit -/

/-- OPEN_RUN checks STANDBY, the ranges, the four tables, unread records without the discard flag, and the rebased base
offsets, in that order; else it rebases the ACTIVE bank, opens the next run at its start chainage, clears or renumbers
the trace and enters MANUAL. CLOSE_RUN from MANUAL or SUSPENDED takes a pending profile over and ends the run in
STANDBY. -/
def Obligations.OpenAndCloseRun : Prop :=
  (∀ (r : Request) (s : State) (c0 c1 c2 c3 g0 g1 flag : Byte), Carries r [c0, c1, c2, c3, g0, g1, flag] →
    let start := word4 c0 c1 c2 c3
    let g := int2 g0 g1
    let entries := s.store.active.entries
    let offsets := baseOffsets g entries
    let number := (s.run.number + 1) % 65536
    exec (.openRun r) s = answered 0x30 r s (fun t =>
      if s.ctl.state ≠ .standby then refuse .state t
      else if 5000000 < start ∨ 5000 < g.natAbs then refuse .range t
      else if entries = [] ∨ s.store.tiltTable = none ∨ s.store.raiseMap = none ∨ s.store.lowerMap = none then
        refuse .state t
      else if s.trace.tail ≠ s.trace.read ∧ flag = 0 then refuse .state t
      else if ∃ b ∈ offsets, b < -200000000 ∨ 200000000 < b then refuse .range t
      else ⟨.ok, bytes2 number, released .manual { t with
        store := { s.store with active := ⟨entries, g, offsets⟩ }
        run := ⟨number, true, g, 0, false, start⟩
        chain := ⟨start, 0, start, start / s.params.traceStep, s.chain.dH⟩
        trace := if flag = 0 then { s.trace with seqNo := 0 } else ⟨0, 0, none, 0, [], s.trace.gateOpen⟩
        ctl := { s.ctl with memory := 0 } }⟩)) ∧
  (∀ (r : Request) (s : State), Carries r [] →
    exec (.closeRun r) s = answered 0x31 r s (fun t =>
      if s.ctl.state ≠ .manual ∧ s.ctl.state ≠ .suspended then refuse .state t
      else
        let v := if s.store.takeover.isSome then swapped t else t
        ⟨.ok, bytes2 s.run.number, released .standby { v with
          run := { s.run with isOpen := false, benched := false, dSet := 0 } }⟩))

/-- BENCH in MANUAL and SUSPENDED, of a named beam or of the reference: with a fresh measured depth H through it, of 0 as
offset where it is not the reference, D_set becomes H − T when that lies in 0 to 60,000, the run is benched, and a beam
that was not the reference becomes it with O = 0 while the others lose their offsets. A reference in FADING is refused
with NO_DATA whatever its age (log 36). That the benched beam and the entries moved to TRACKING keep their fade time is
DEDUCED (log 28). -/
def Obligations.BenchFixesDepth : Prop :=
  ∀ (r : Request) (s : State) (p b : Byte), Carries r [p, b] →
    let named (c : BeamCode) : Prop := (p.getLsbD 0 = true ∧ b = beamByte c) ∨
      (p.getLsbD 0 = false ∧ isRef (beam s c) = true)
    let sends (act : State → Answer) : Prop := exec (.bench r) s = answered 0x32 r s act
    let free := s.ctl.state = .manual ∨ s.ctl.state = .suspended
    (¬ free → sends (refuse .state)) ∧
    (free → p.getLsbD 0 = true → 3 < b.toNat → sends (refuse .range)) ∧
    (free → p.getLsbD 0 = false → (∀ c, isRef (beam s c) = false) → sends (refuse .noData)) ∧
    (BeamsSound s → free → ∀ c, named c →
      let e := beam s c
      (e.state = .unseen ∨ e.state = .acquiring ∨ e.state = .lost → sends (refuse .state)) ∧
      (e.state = .fading → sends (refuse .noData)) ∧
      (e.state = .tracking ∨ e.state = .established ∨ e.state = .reference →
        (s.store.tiltTable = none → sends (refuse .noData)) ∧
        (∀ (h : Height) (table : List Int), e.accepted = some h → s.store.tiltTable = some table →
          let depth := h.b + (if e.state = .reference then e.offset.getD 0 else 0) + s.params.mast
            + correction table s.tilt.theta
          (s.params.strikeTmo < age s.now.ms h.time → sends (refuse .noData)) ∧
          (∀ target, age s.now.ms h.time ≤ s.params.strikeTmo → targetAt s.store.active s.chain.s = some target →
            let d := depth - target
            let noted (t : State) : State := if targetSaturates s.store.active s.chain.s then
              latch .targetSaturated none s.chain.s t else t
            let turned (t : State) : State := if e.state = .reference then t else setMemory 0
              (setBeam c { e with state := .reference, offset := some 0, window := [] }
                (mapBeams (fun x => if isRef x = true ∨ x.state = .established then
                  { x with state := .tracking, offset := none, window := [] } else { x with window := [] }) t))
            (d < 0 ∨ 60000 < d → sends (fun t => refuse .range (noted t))) ∧
            (0 ≤ d → d ≤ 60000 → sends (fun t =>
              ⟨.ok, signed4 d, { turned (noted t) with run := { s.run with dSet := d, benched := true } }⟩))))))

/-- SET_DEPTH: STATE outside MANUAL and SUSPENDED, NO_DATA with no reference, else D_set becomes the depth clamped to 0 to
60,000, answered CLAMPED where that adjusted it, the run is benched, and the reply carries D_set. -/
def Obligations.SetDepthClamps : Prop :=
  ∀ (r : Request) (s : State) (b0 b1 b2 b3 : Byte), Carries r [b0, b1, b2, b3] →
    let v := int4 b0 b1 b2 b3
    let d : Int := if v < 0 then 0 else if 60000 < v then 60000 else v
    let sends (act : State → Answer) : Prop := exec (.setDepth r) s = answered 0x33 r s act
    let free := s.ctl.state = .manual ∨ s.ctl.state = .suspended
    (¬ free → sends (refuse .state)) ∧
    (free → (∀ c, isRef (beam s c) = false) → sends (refuse .noData)) ∧
    (free → (∃ c, isRef (beam s c) = true) → sends (fun t =>
      ⟨if d = v then .ok else .clamped, signed4 d,
        { t with run := { s.run with dSet := d, benched := true } }⟩))

/-- SET_MODE AUTO from MANUAL and RESUME from SUSPENDED enter AUTO when the run is benched, an entry is in REFERENCE, its
measured depth is present and fresh, and the tilt record is fresh, and are answered STATE else; SET_MODE MANUAL leaves
AUTO, HOLD and SUSPENDED with the handback frame; CLEAR_TRIP leaves TRIPPED, STOP being INACTIVE, for MANUAL with a run
open and STANDBY without. Any other mode byte is answered RANGE. The two SET_MODE rows are told apart by that byte, so
that what the AUTO row answers with byte 0 is the model's choice (log 9); and at the reading where the fading of the
reference is due the measured depth is stale already, and AUTO is refused (log 34). A tilt record whose expiry is due but
not yet taken still counts as fresh (log 39). -/
def Obligations.ModeRequests : Prop :=
  ∀ (r : Request) (s : State),
    let ready := s.run.benched = true ∧ s.tilt.fresh = true ∧ s.store.tiltTable.isSome = true ∧
      ∃ c h, (beam s c).state = .reference ∧ (beam s c).accepted = some h ∧
        age s.now.ms h.time ≤ s.params.strikeTmo
    let ok (f : State → State) (t : State) : Answer := ⟨.ok, [], f t⟩
    (∀ m : Byte, Carries r [m] →
      (m = 1 → BeamsSound s → s.ctl.state = .manual ∧ ready →
        exec (.setModeAuto r) s = answered 0x34 r s (ok autoEntered)) ∧
      (m = 1 → BeamsSound s → ¬ (s.ctl.state = .manual ∧ ready) →
        exec (.setModeAuto r) s = answered 0x34 r s (refuse .state)) ∧
      (m ≠ 1 → exec (.setModeAuto r) s = answered 0x34 r s (refuse .range)) ∧
      (m = 0 → exec (.setModeManual r) s = answered 0x34 r s
        (if s.ctl.state = .auto ∨ s.ctl.state = .hold ∨ s.ctl.state = .suspended then ok (released .manual)
        else refuse .state))) ∧
    (Carries r [] →
      (BeamsSound s → s.ctl.state = .suspended ∧ ready →
        exec (.resume r) s = answered 0x35 r s (ok autoEntered)) ∧
      (BeamsSound s → ¬ (s.ctl.state = .suspended ∧ ready) →
        exec (.resume r) s = answered 0x35 r s (refuse .state)) ∧
      (exec (.clearTrip r) s = answered 0x36 r s
        (if s.ctl.state = .tripped ∧ s.lines.stop.active = false then
          ok (released (if s.run.isOpen = true then .manual else .standby))
        else refuse .state)))

/-- HANDOVER of an ESTABLISHED beam: the entry in REFERENCE or FADING moves to ESTABLISHED, the beam becomes the
reference with its offset, HANDOVER_DONE is latched, every window is emptied, the demand memory becomes 0, and HOLD
becomes AUTO. ADOPT of a TRACKING beam in a benched open run makes it ESTABLISHED with the offset clamped to ±6,400. -/
def Obligations.HandoverAndAdopt : Prop :=
  ∀ (r : Request) (s : State) (b : Byte),
    (Carries r [b] →
      (3 < b.toNat → exec (.handover r) s = answered 0x38 r s (refuse .range)) ∧
      (∀ c, b = beamByte c →
        ((beam s c).state ≠ .established → exec (.handover r) s = answered 0x38 r s (refuse .state)) ∧
        ((beam s c).state = .established →
          exec (.handover r) s = answered 0x38 r s (fun t =>
            let stood := mapBeams (fun e => if isRef e = true then { e with state := .established } else e) t
            let v := latch .handoverDone (some c) s.chain.s
              (setBeam c { beam s c with state := .reference, fade := none } stood)
            let w := setMemory 0 (mapBeams (fun e => { e with window := [] }) v)
            ⟨.ok, [], if s.ctl.state = .hold then autoEntered w else w⟩)))) ∧
    (∀ o0 o1 o2 o3 : Byte, Carries r [b, o0, o1, o2, o3] →
      let v := int4 o0 o1 o2 o3
      let o : Int := if v < -6400 then -6400 else if 6400 < v then 6400 else v
      (3 < b.toNat → exec (.adopt r) s = answered 0x39 r s (refuse .range)) ∧
      (∀ c, b = beamByte c →
        exec (.adopt r) s = answered 0x39 r s (fun t =>
          if s.run.isOpen = false ∨ s.run.benched = false ∨ (beam s c).state ≠ .tracking then refuse .state t
          else ⟨if o = v then .ok else .clamped, [],
            setBeam c { beam s c with state := .established, offset := some o, window := [] } t⟩)))

/-! ## Output channels and ticks -/

/-- A value written to a channel: silenced in STANDBY and MANUAL for DEPTH; pending and fresh in SYNCHRONOUS mode; held
and emitted at once in IMMEDIATE mode and, for DEPTH, in TEST. Emission: a demand or test value of a direction whose
opposite was emitted less than P_DWELL ago becomes NEUTRAL, held as NEUTRAL with demand memory 0; else the frame carries
the direction, the map's current or the test current, and the channel sequence, which moves on, into the DEPTH slot. -/
def Obligations.ChannelWritesAndEmission : Prop :=
  ∀ s : State,
    (∀ v : DepthValue, writeDepth v s =
      (if s.ctl.state = .standby ∨ s.ctl.state = .manual then s
      else if s.ctl.state = .test ∨ s.params.modeDepth = .immediate then
        emitDepth { s with depth := { s.depth with held := v } }
      else { s with depth := { s.depth with waiting := some v, fresh := true } })) ∧
    (∀ v : TravelValue, writeTravel v s =
      (if s.params.modeTravel = .immediate then travelSent v s
      else { s with travel := { s.travel with waiting := some v, fresh := true } })) ∧
    (∀ (d : Dir) (isTest : Bool) (u : Nat),
      s.depth.held = (if isTest then .test d u else .demand d u) →
      let opposite := if d = .raise then s.depth.lastLower else s.depth.lastRaise
      let wire (c : Byte) (i : Nat) : CanFrame :=
        ⟨.ext (identOf 1 0x31 63 s.node 0), .data .fd, [c] ++ bytes2 i ++ [s.depth.seq]⟩
      let sent (f : DepthFrame) (c : Byte) : State := { s with
        depth := { s.depth with
          emitted := true, last := some f, seq := s.depth.seq + 1
          lastRaise := if f.dir = some .raise then some s.now.ms else s.depth.lastRaise
          lastLower := if f.dir = some .lower then some s.now.ms else s.depth.lastLower }
        portD := { s.portD with depthSlot := some (wire c f.current) } }
      let code : Byte := if d = .raise then 1 else 2
      (opposite.any (fun t => age s.now.ms t < s.params.dwell) = true →
        emitDepth s = neutralSent { s with ctl := { s.ctl with memory := 0 } }) ∧
      (opposite.all (fun t => s.params.dwell ≤ age s.now.ms t) = true →
        (isTest = true → u = 0 → emitDepth s = sent ⟨none, 0, 0, s.depth.seq⟩ 0) ∧
        (isTest = true → 0 < u → emitDepth s = sent ⟨some d, 0, u, s.depth.seq⟩ code) ∧
        (∀ m i, isTest = false → (if d = .raise then s.store.raiseMap else s.store.lowerMap) = some m →
          mapCurrent m u = some i → emitDepth s = sent ⟨some d, u, i, s.depth.seq⟩ code))) ∧
    (s.depth.held = .neutral → emitDepth s = neutralSent s)

/-- An output tick, internal when P_TICK has passed in INTERNAL and FALLBACK mode, of a SYNC frame in SYNC and FALLBACK
mode, or of the SYNC timeout, whose SYNC_LOST follows the tick (log 12), reaches DEPTH, TRAVEL and the streaming; an
internal tick that a SYNC frame found due is still made after it (log 38). Ticks not due change nothing (log 3). A
channel emits its fresh pending value, else its held one; a stale tick in AUTO is counted and decays a held demand to
floor(u (10,000 − P_DECAY) / 10,000), NEUTRAL below P_UMIN. INTERMITTENT streaming sends up to P_STREAM_K frames, each
while a record is unread and 8 queue entries are free. -/
def Obligations.OutputTicks : Prop :=
  (∀ s : State,
    let due := s.tick.owed = true ∨ (s.tick.mode ≠ .syncFrames ∧
      age s.tick.nextTick s.tick.lastTick ≤ age s.now.ms s.tick.lastTick)
    let tickNow (m : TickMode) (since : Ms) (owed : Bool) (u : State) : State :=
      streamTick (travelTick (depthTick { u with
        tick := ⟨m, s.now.ms, s.now.ms + BitVec.ofNat 32 s.params.tick, since, owed⟩ }))
    exec .outputTick s = .next (if due then tickNow s.tick.mode s.tick.syncSince false s else s) ∧
    (∀ f : Arrival,
      let t := forwardTaken .d 0x33 f s
      (s.tick.mode = .internalTicks → exec (.sync f) s = .next t) ∧
      (s.tick.mode ≠ .internalTicks → due → exec (.sync f) s = .next (tickNow .syncFrames s.now.ms true t)) ∧
      (s.tick.mode ≠ .internalTicks → ¬ due → exec (.sync f) s = .next (tickNow .syncFrames s.now.ms false t))) ∧
    exec .syncTimeout s = .next (if s.tick.mode = .syncFrames ∧ s.params.syncTmo < age s.now.ms s.tick.syncSince then
      latch .syncLost none s.chain.s (tickNow .fallback s.tick.syncSince s.tick.owed s) else s)) ∧
  (∀ s : State,
    let stale (t : State) : State := { t with counters := { s.counters with
      staleTicks := min 65535 (s.counters.staleTicks + 1) } }
    let unmarkD (t : State) : State := { t with depth := { t.depth with emitted := false } }
    let unmarkT (t : State) : State := { t with travel := { t.travel with emitted := false } }
    let immediate := s.ctl.state = .test ∨ s.params.modeDepth = .immediate
    let quiet := s.ctl.state = .standby ∨ s.ctl.state = .manual
    (quiet → depthTick s = unmarkD s) ∧
    (s.ctl.state = .tripped → depthTick s = unmarkD (emitDepth s)) ∧
    (¬ quiet → s.ctl.state ≠ .tripped →
      (immediate → s.depth.emitted = true → depthTick s = unmarkD s) ∧
      (∀ v, ¬ immediate → s.depth.fresh = true → s.depth.waiting = some v →
        depthTick s = unmarkD (emitDepth { s with depth := { s.depth with
          held := v, waiting := none, fresh := false } })) ∧
      ((immediate ∧ s.depth.emitted = false) ∨ (¬ immediate ∧ s.depth.fresh = false) →
        (s.ctl.state ≠ .auto ∨ s.depth.held = .neutral → depthTick s =
          unmarkD (emitDepth (if s.ctl.state = .auto then stale s else s))) ∧
        (∀ d u, s.ctl.state = .auto → s.depth.held = .demand d u →
          let u' := u * (10000 - s.params.decay) / 10000
          let held (v : DepthValue) (m : Int) : State := { stale s with
            depth := { s.depth with held := v }, ctl := { s.ctl with memory := m } }
          depthTick s = unmarkD (emitDepth (if u' = 0 ∨ u' < s.params.umin then
            latch .outputDecayed (reference s) s.chain.s (held .neutral 0)
          else held (.demand d u') (if d = .raise then u' else -u')))))) ∧
    (s.ctl.state = .tripped → travelTick s = unmarkT (travelSent s.travel.held s)) ∧
    (s.ctl.state ≠ .tripped →
      (s.params.modeTravel = .immediate → s.travel.emitted = true → travelTick s = unmarkT s) ∧
      (∀ v, s.params.modeTravel = .synchronous → s.travel.fresh = true → s.travel.waiting = some v →
        travelTick s = unmarkT (travelSent v { s with travel := { s.travel with
          waiting := none, fresh := false } })) ∧
      ((s.params.modeTravel = .immediate ∧ s.travel.emitted = false) ∨
        (s.params.modeTravel = .synchronous ∧ s.travel.fresh = false) →
        travelTick s = unmarkT (travelSent s.travel.held
          (if s.ctl.state = .auto then stale s else s)))) ∧
    (s.params.stream ≠ .intermittent → streamTick s = s) ∧
    (s.params.stream = .intermittent → streamTick s = streamUpTo s.params.streamK s) ∧
    streamUpTo 0 s = s ∧
    (∀ k, mayStream s → streamUpTo (k + 1) s = streamUpTo k (recordsSent s)) ∧
    (∀ k, ¬ mayStream s → streamUpTo k s = s))

/-! ## The valve deadband test -/

/-- TEST_START checks STANDBY or MANUAL, the direction and P_VT_START against P_VT_MAX, then takes the reference, or the
lowest beam in TRACKING or ESTABLISHED, as test beam, whose measurement must be fresh, a reference in FADING being
refused whatever its age (log 36); else TEST is entered with TRAVEL 0 and, once the dwell has passed, the first step at
once, at exactly P_DWELL too (the model's choice, log 41). TEST_APPLY puts the current of a FOUND record into the first point of its direction's map, when it lies in 1 to
the second point's current. -/
def Obligations.TestStartAndApply : Prop :=
  (∀ (r : Request) (s : State) (b : Byte), Carries r [b] →
    let sends (act : State → Answer) : Prop := exec (.testStart r) s = answered 0x40 r s act
    let free := s.ctl.state = .standby ∨ s.ctl.state = .manual
    let usable (c : BeamCode) : Prop := (beam s c).state = .tracking ∨ (beam s c).state = .established
    (¬ free → sends (refuse .state)) ∧
    (free → b ≠ 1 ∧ b ≠ 2 ∨ s.params.vtMax < s.params.vtStart → sends (refuse .range)) ∧
    (free → b = 1 ∨ b = 2 → s.params.vtStart ≤ s.params.vtMax →
      ((∀ c, isRef (beam s c) = false ∧ ¬ usable c) → sends (refuse .noData)) ∧
      (∀ (c : BeamCode) (h : Height), BeamsSound s → (beam s c).accepted = some h →
        isRef (beam s c) = true ∨ (usable c ∧ ∀ d, isRef (beam s d) = false ∧ (usable d → beamNat c ≤ beamNat d)) →
        (s.params.strikeTmo < age s.now.ms h.time ∨ (beam s c).state = .fading → sends (refuse .noData)) ∧
        (age s.now.ms h.time ≤ s.params.strikeTmo → (beam s c).state ≠ .fading →
          let run : TestRun := ⟨if b = 1 then .raise else .lower, c, h.b, s.now.ms, s.now.ms⟩
          let entered (t : State) : State := writeTravel ⟨0, .test⟩ (manualDiscarded { t with
            test := ⟨.waiting run, s.test.result⟩
            ctl := { s.ctl with state := .test, prior := some s.ctl.state } })
          sends (fun t => ⟨.ok, beamByte c :: signed2 h.b,
            if dwellPassed run.dir s = true then stepTaken run s.params.vtStart (entered t) else entered t⟩))))) ∧
  (∀ (r : Request) (s : State), Carries r [] →
    let sends (act : State → Answer) : Prop := exec (.testApply r) s = answered 0x43 r s act
    let busy := s.ctl.state = .auto ∨ s.ctl.state = .hold ∨ s.ctl.state = .test
    (busy → sends (refuse .state)) ∧
    (¬ busy → s.test.result.outcome ≠ .found → sends (refuse .range)) ∧
    (∀ (d : Dir) (i : Nat), ¬ busy → s.test.result.outcome = .found → s.test.result.dir = some d →
      s.test.result.current = some i →
      let map := if d = .raise then s.store.raiseMap else s.store.lowerMap
      (map = none → sends (refuse .noData)) ∧
      (∀ (p q : MapPoint) (rest : List MapPoint), map = some (p :: q :: rest) →
        (i = 0 ∨ q.i < i → sends (refuse .range)) ∧
        (0 < i → i ≤ q.i → sends (fun t => ⟨.ok, bytes2 i, { t with store :=
          if d = .raise then { s.store with raiseMap := some (⟨p.d, i⟩ :: q :: rest) }
          else { s.store with lowerMap := some (⟨p.d, i⟩ :: q :: rest) } }⟩)))))

/-- A running test. Its first step is written at the dwell-clear moment. A step's expiry ends it FOUND at a movement of
P_VT_MOVE, WRONG_DIRECTION at one the other way, else raises the current by P_VT_STEP, or ends NOT_FOUND beyond
P_VT_MAX. It ends NO_BEAM when no usable strike came for P_VT_NOSTRIKE, ABORTED_REQUEST by TEST_ABORT, OFF_COLUMN at an
EDGE strike of its beam, whichever the edge; an accepted or rebasing strike of it renews the timeout, and a rejected
one, a MULTI, and any of another beam leave the test as it is. Every ending but STOP's is the same operation. Events
before their moment do nothing (log 3). -/
def Obligations.TestEvents : Prop :=
  (∀ (s : State) (t : TestRun) (back : CtlState), s.ctl.state = .test → s.ctl.prior = some back →
    back = .standby ∨ back = .manual →
    let late := s.params.vtNostrike < age s.now.ms t.lastUsable
    let ends (current : Option Nat) : Prop :=
      (∀ o, o ≠ .stop → endTest o s = testEnded o back t current s) ∧
      exec .noBeamTimeout s = .next (if late then testEnded .noBeam back t current s else s) ∧
      (∀ r, Carries r [] →
        exec (.testAbort r) s = answered 0x41 r s (fun u => ⟨.ok, [], testEnded .request back t current u⟩))
    let struck (renewed : TestPhase) (current : Option Nat) : Prop := ∀ c : BeamCode,
      let usable : State := if c = t.beam then { s with test := ⟨renewed, s.test.result⟩ } else s
      let edge : State := if c = t.beam then testEnded .offColumn back t current s else s
      (∀ b, handTestStrike c (.accepted b) s = usable ∧ handTestStrike c (.rebased b) s = usable) ∧
      handTestStrike c .edgeHigh s = edge ∧ handTestStrike c .edgeLow s = edge ∧
      handTestStrike c .jumpRejected s = s ∧ handTestStrike c .multi s = s
    (s.test.phase = .waiting t →
      (dwellPassed t.dir s = false → exec .dwellClearMoment s = .next s) ∧
      (dwellPassed t.dir s = true → exec .dwellClearMoment s = .next
        (if s.params.vtMax < s.params.vtStart then testEnded .notFound back t none s
        else stepTaken t s.params.vtStart s)) ∧
      exec .stepTimerExpiry s = .next s ∧ ends none ∧
      struck (.waiting { t with lastUsable := s.now.ms }) none) ∧
    (∀ (i : Nat) (timer set : Ms), s.test.phase = .stepping t i timer set →
      exec .dwellClearMoment s = .next s ∧
      (age s.now.ms set < age timer set → exec .stepTimerExpiry s = .next s) ∧
      (∀ h, age timer set ≤ age s.now.ms set → (beam s t.beam).accepted = some h →
        let moved : Int := if t.dir = .raise then t.b0 - h.b else h.b - t.b0
        exec .stepTimerExpiry s = .next
          (if (s.params.vtMove : Int) ≤ moved then testEnded .found back t (some i) s
          else if moved ≤ -(s.params.vtMove : Int) then testEnded .wrongDirection back t (some i) s
          else if i + s.params.vtStep ≤ s.params.vtMax then stepTaken t (i + s.params.vtStep) s
          else testEnded .notFound back t (some i) s)) ∧
      ends (some i) ∧ struck (.stepping { t with lastUsable := s.now.ms } i timer set) (some i))) ∧
  (∀ s : State, s.test.phase = .idle →
    exec .dwellClearMoment s = .next s ∧ exec .stepTimerExpiry s = .next s ∧ exec .noBeamTimeout s = .next s ∧
    (∀ c x, handTestStrike c x s = s) ∧ (∀ o, endTest o s = s) ∧
    (∀ r, Carries r [] → exec (.testAbort r) s = answered 0x41 r s (refuse .state)))

/-! ## Parameters and tables -/

/-- PARAM_WRITE: an identifier not defined, or an enumerated value not defined, is answered RANGE; P_PITCH, P_MAST,
P_ODO_SCALE and P_TRACE_STEP with a run open STATE; a numeric value goes to the nearer limit of its range, and P_UMIN
and P_UMAX keep their order, answered CLAMPED where that adjusted it. The value is stored, no other parameter changes,
and the effect its owner makes at the write happens, and no other: P_STRIKE_TMO, with any value (log 27), takes the due
timeouts of the beams in code order and then one of the reference; P_TILT_TMO judges the tilt record, a stale one that
is not older becoming fresh (log 37); P_VT_MAX below the step current ends the test NOT_FOUND. The tick and the first
step that P_TICK and P_DWELL may make due are left to their own commands (log 31, log 30), and a write of P_TICK_SRC to
INTERNAL drops a tick that log 38 kept. -/
def Obligations.ParameterWrite : Prop :=
  ∀ (r : Request) (s : State) (id b0 b1 b2 b3 : Byte), Carries r [id, b0, b1, b2, b3] →
    let n := id.toNat
    let v := int4 b0 b1 b2 b3
    let sends (act : State → Answer) : Prop := exec (.paramWrite r) s = answered 0x11 r s act
    let fixed := n ∈ [1, 2, 13, 36] ∧ s.run.isOpen = true
    let judged (u : State) : State := match u.tilt.arrival with
      | none => u
      | some t => if age u.now.ms t ≤ u.params.tiltTmo then { u with tilt := { u.tilt with fresh := true } }
        else if u.tilt.fresh = true then
          latch .tiltStale none u.chain.s { u with tilt := { u.tilt with fresh := false } }
        else u
    let timedOut (u : State) : State :=
      let a := left (.strikeTimeout .b3) (left (.strikeTimeout .b2) (left (.strikeTimeout .b1)
        (left (.strikeTimeout .b0) u)))
      if (reference a).any (fun c => (beam a c).state = .reference) then left .referenceTimeout a
      else left .fadingTimeout a
    let capped (u : State) : State := match u.test.phase with
      | .stepping _ i _ _ => if u.params.vtMax < i then endTest .notFound u else u
      | .waiting _ => u
      | .idle => u
    let effect (u : State) : State :=
      if n = 5 then judged u else if n = 6 then timedOut u
      else if n = 9 then mapBeams (fun e => { e with window := [] }) u
      else if n = 16 then left .acceptedOdoEdge u else if n = 17 then left .acceptedDirChange u
      else if n = 18 then left .acceptedDigChange u
      else if n = 19 then (if u.lines.stop.active = true then left .stopRelease u else left .stopAcceptedActive u)
      else if n = 23 then { u with
        ctl := { u.ctl with memory := max (-(u.params.umax : Int)) (min u.ctl.memory u.params.umax) }
        depth := { u.depth with
          waiting := u.depth.waiting.map (clampDepthValue u.params.umax)
          held := clampDepthValue u.params.umax u.depth.held } }
      else if n = 30 then (if u.tick.mode = .syncFrames then u else { u with tick := { u.tick with
        nextTick := if age (u.tick.lastTick + BitVec.ofNat 32 u.params.tick) u.tick.lastTick ≤ age u.now.ms u.tick.lastTick
          then u.now.ms else u.tick.lastTick + BitVec.ofNat 32 u.params.tick } })
      else if n = 31 then (if s.params.tickSrc = u.params.tickSrc then u
        else if u.params.tickSrc = .syncFrames then
          { u with tick := { u.tick with mode := .syncFrames, syncSince := u.now.ms } }
        else { u with tick := { u.tick with
          mode := .internalTicks, nextTick := u.now.ms + BitVec.ofNat 32 u.params.tick, owed := false } })
      else if n = 32 then left .syncTimeout u
      else if n = 33 then (if s.params.modeDepth = .synchronous ∧ u.params.modeDepth = .immediate ∧ u.depth.fresh = true
        then (if u.ctl.state = .standby ∨ u.ctl.state = .manual then
            { u with depth := { u.depth with waiting := none, fresh := false } }
          else emitDepth { u with depth := { u.depth with
            held := u.depth.waiting.getD u.depth.held, waiting := none, fresh := false } })
        else u)
      else if n = 34 then (if s.params.modeTravel = .synchronous ∧ u.params.modeTravel = .immediate ∧
          u.travel.fresh = true
        then travelSent (u.travel.waiting.getD u.travel.held)
          { u with travel := { u.travel with waiting := none, fresh := false } }
        else u)
      else if n = 36 then { u with chain := { u.chain with n := u.chain.s / u.params.traceStep } }
      else if n = 39 then burst u else if n = 47 then capped u else if n = 48 then left .noBeamTimeout u else u
    (paramKind n = none → sends (refuse .range)) ∧
    (fixed → sends (refuse .state)) ∧
    (∀ k : Nat, paramKind n = some (.enumerated k) → v < 0 ∨ (k : Int) ≤ v → sends (refuse .range)) ∧
    (∀ w : Nat, ¬ fixed →
      (∃ k : Nat, paramKind n = some (.enumerated k) ∧ v < k ∧ (w : Int) = v) ∨
      (∃ lo hi : Nat, paramKind n = some (.numeric lo hi) ∧
        let near : Int := max (lo : Int) (min v hi)
        (w : Int) = if n = 22 then min near s.params.umax else if n = 23 then max near s.params.umin else near) →
      ∃ p' : Params, (∀ j, readParam j p' = if j = n then some w else readParam j s.params) ∧
        sends (fun t => ⟨if (w : Int) = v then .ok else .clamped, id :: signed4 w, effect { t with params := p' }⟩))

/-- LOAD_BEGIN opens a session with its staging emptied, unless one is open or, for PROFILE, a takeover is pending.
LOAD_ENTRY appends one entry within its ranges until the kind's capacity. LOAD_CANCEL closes the session of its kind,
keeping what is staged (log 22), or withdraws a pending takeover, which reopens the PROFILE session with every entry; the
basis grade and base offsets the STAGING bank then keeps are the model's choice (log 32). -/
def Obligations.LoadSession : Prop :=
  (∀ (r : Request) (s : State) (b : Byte), Carries r [b] →
    let begins (act : State → Answer) : Prop := exec (.loadBegin r) s = answered 0x20 r s act
    let cancels (act : State → Answer) : Prop := exec (.loadCancel r) s = answered 0x23 r s act
    (3 < b.toNat → begins (refuse .range) ∧ cancels (refuse .range)) ∧
    (∀ k : TableKind, b = kindByte k →
      (s.store.session.isSome = true ∨ (k = .profile ∧ s.store.takeover.isSome = true) → begins (refuse .busy)) ∧
      (s.store.session = none → (k = .profile → s.store.takeover = none) → begins (fun t => ⟨.ok, [b, 0, 0],
        { t with store := if k = .profile then { s.store with staging := ⟨[], 0, []⟩, session := some ⟨k, 0⟩ }
          else { s.store with shared := [], session := some ⟨k, 0⟩ } }⟩)) ∧
      (k = .profile → s.store.takeover.isSome = true →
        (s.store.session.isSome = true → cancels (refuse .busy)) ∧
        (s.store.session = none → cancels (fun t => ⟨.ok, [b, 1] ++ bytes2 s.store.staging.entries.length,
          { t with store := { s.store with
            takeover := none, session := some ⟨.profile, s.store.staging.entries.length⟩ } }⟩))) ∧
      (k ≠ .profile ∨ s.store.takeover = none →
        (∀ p, s.store.session = some ⟨k, p⟩ → cancels (fun t => ⟨.ok, [b, 0, 0, 0],
          { t with store := { s.store with session := none } }⟩)) ∧
        ((∀ p, s.store.session ≠ some ⟨k, p⟩) → cancels (refuse .sequence))))) ∧
  (∀ (r : Request) (s : State) (k : TableKind) (p : Nat) (body : List Byte), s.store.session = some ⟨k, p⟩ →
    Carries r body → body.length = entryLength k →
    let sends (act : State → Answer) : Prop := exec (.loadEntry r) s = answered 0x21 r s act
    let at_ (i : Nat) : Byte := body.getD i 0
    let takes (store : ProfileStore) : Prop := sends (fun t => ⟨.ok, bytes2 (p + 1),
      { t with store := { store with session := some ⟨k, p + 1⟩ } }⟩)
    (capacity k ≤ p → sends (refuse .range)) ∧
    (p < capacity k →
      (k = .profile →
        let e : ProfileEntry := ⟨word4 (at_ 1) (at_ 2) (at_ 3) (at_ 4), int2 (at_ 5) (at_ 6),
          if (at_ 0).getLsbD 0 then some (int2 (at_ 7) (at_ 8)) else none,
          if (at_ 0).getLsbD 1 then some (word2 (at_ 9) (at_ 10)) else none⟩
        let inRange := e.start ≤ 5000000 ∧ e.grade.natAbs ≤ 5000 ∧ (∀ d, e.step = some d → d.natAbs ≤ 5000) ∧
          (∀ c, e.cap = some c → c ≤ 10000)
        (¬ inRange → sends (refuse .range)) ∧
        (inRange → takes { s.store with staging := { s.store.staging with
          entries := s.store.staging.entries ++ [e] } })) ∧
      (k = .tilt →
        let c := int2 (at_ 0) (at_ 1)
        (2000 < c.natAbs → sends (refuse .range)) ∧
        (c.natAbs ≤ 2000 → takes { s.store with shared := s.store.shared ++ [.tilt c] })) ∧
      (k = .valveRaise ∨ k = .valveLower →
        let q : MapPoint := ⟨word2 (at_ 0) (at_ 1), word2 (at_ 2) (at_ 3)⟩
        let inRange := q.d ≤ 10000 ∧ 1 ≤ q.i ∧ q.i ≤ 2500
        (¬ inRange → sends (refuse .range)) ∧
        (inRange → takes { s.store with shared := s.store.shared ++ [.point q] }))))

/-- LOAD_COMMIT: SEQUENCE with no session or a count other than the pointer; RANGE where the staging fails its validation;
then a valid profile goes straight to the ACTIVE bank, or with a run open waits for its takeover chainage, and a tilt
table or valve map replaces the committed one outside AUTO, HOLD and TEST, the shared staging area keeping its entries
(DEDUCED, log 22). -/
def Obligations.LoadCommit : Prop :=
  ∀ (r : Request) (s : State) (c0 c1 t0 t1 t2 t3 : Byte), Carries r [c0, c1, t0, t1, t2, t3] →
    let count := word2 c0 c1
    let takeover := word4 t0 t1 t2 t3
    let sends (act : State → Answer) : Prop := exec (.loadCommit r) s = answered 0x22 r s act
    let entries := s.store.staging.entries
    let basis := if s.run.isOpen = true then s.run.grade else (entries.head?.map (fun e => e.grade)).getD 0
    let offsets := baseOffsets basis entries
    let points := stagedPoints s.store.shared
    let tilts := stagedTilt s.store.shared
    let rising (l : List Nat) : Prop := ∀ i a b, l[i]? = some a → l[i + 1]? = some b → a < b
    let neverFalling (l : List Nat) : Prop := ∀ i a b, l[i]? = some a → l[i + 1]? = some b → a ≤ b
    let valid (k : TableKind) : Prop :=
      (k = .profile → entries ≠ [] ∧ entries.head?.map (fun e => e.start) = some 0 ∧
        rising (entries.map (fun e => e.start)) ∧ (∀ b ∈ offsets, -200000000 ≤ b ∧ b ≤ 200000000) ∧
        (s.run.isOpen = true → s.chain.s < takeover ∧ takeover ≤ 5000000)) ∧
      (k = .tilt → tilts.length = 25) ∧
      (k = .valveRaise ∨ k = .valveLower → 2 ≤ points.length ∧ points.head?.map (fun p => p.d) = some 0 ∧
        points.getLast?.map (fun p => p.d) = some 10000 ∧ rising (points.map (fun p => p.d)) ∧
        neverFalling (points.map (fun p => p.i)))
    (s.store.session = none → sends (refuse .sequence)) ∧
    (∀ (k : TableKind) (p : Nat), s.store.session = some ⟨k, p⟩ →
      (count ≠ p → sends (refuse .sequence)) ∧
      (count = p → ¬ valid k → sends (refuse .range)) ∧
      (count = p → valid k → k = .profile →
        let bank : Bank := ⟨entries, basis, offsets⟩
        (s.run.isOpen = false → sends (fun t => ⟨.ok, [0, c0, c1, 1, 0, 0, 0, 0, 0],
          swapped { t with store := { s.store with staging := bank, session := none } }⟩)) ∧
        (s.run.isOpen = true → sends (fun t => ⟨.ok, [0, c0, c1, 2, 1, t0, t1, t2, t3],
          { t with store := { s.store with staging := bank, session := none, takeover := some takeover } }⟩))) ∧
      (count = p → valid k → k ≠ .profile →
        (s.ctl.state = .auto ∨ s.ctl.state = .hold ∨ s.ctl.state = .test → sends (refuse .state)) ∧
        (s.ctl.state ≠ .auto → s.ctl.state ≠ .hold → s.ctl.state ≠ .test →
          sends (fun t => ⟨.ok, [kindByte k, c0, c1, 0, 0, 0, 0, 0, 0], { t with store :=
            if k = .tilt then { s.store with tiltTable := some tilts, session := none }
            else if k = .valveRaise then { s.store with raiseMap := some points, session := none }
            else { s.store with lowerMap := some points, session := none } }⟩))))

/-! ## Reads, resets, and the other requests -/

/-- The requests that only report: PARAM_READ, READ_ENTRY of each kind, FWD_READ, COUNTERS_READ, TEST_RESULT and
SNAPSHOT, whose only effect is the latch of a saturated design target. The body each reply carries, and RANGE and
NO_DATA where there is nothing to read. -/
def Obligations.Reports : Prop :=
  (∀ (r : Request) (s : State) (b : Byte), Carries r [b] →
    (exec (.paramRead r) s = answered 0x10 r s (fun t =>
      ((readParam b.toNat s.params).map (fun v => (⟨.ok, b :: signed4 v, t⟩ : Answer))).getD (refuse .range t))) ∧
    (exec (.fwdRead r) s = answered 0x51 r s (fun t =>
      ((s.fwd[b.toNat]?).map (fun e => (⟨.ok, [b, flagByte e.inUse,
        if e.ingress = .u then 0 else if e.ingress = .d then 1 else 2, if e.action = .pass then 0 else 1]
        ++ bytes4 e.value.toNat ++ bytes4 e.mask.toNat, t⟩ : Answer))).getD (refuse .range t)))) ∧
  (∀ (r : Request) (s : State) (k i0 i1 : Byte), Carries r [k, i0, i1] →
    let i := word2 i0 i1
    let reads (act : State → Answer) : Prop := exec (.readEntry r) s = answered 0x24 r s act
    let p := s.store
    let point (m : List MapPoint) (t : State) : Answer :=
      ((m[i]?).map (fun q => (⟨.ok, [k, i0, i1] ++ bytes2 q.d ++ bytes2 q.i ++ [byte m.length], t⟩ : Answer))).getD
        (refuse .range t)
    (3 < k.toNat → reads (refuse .range)) ∧
    (k = 0 → p.active.entries = [] → reads (refuse .noData)) ∧
    (k = 0 → p.active.entries ≠ [] → p.active.entries.length ≤ i → reads (refuse .range)) ∧
    (∀ e b, k = 0 → p.active.entries[i]? = some e → p.active.offsets[i]? = some b → reads (fun t =>
      ⟨.ok, [k, presence [e.step.isSome, e.cap.isSome, p.takeover.isSome], i0, i1] ++ bytes4 e.start ++ signed2 e.grade
        ++ signed2 (e.step.getD 0) ++ bytes2 (e.cap.getD 0) ++ signed4 b ++ bytes2 p.active.entries.length
        ++ signed2 p.active.basis ++ bytes4 (p.takeover.getD 0), t⟩)) ∧
    (k = 1 → p.tiltTable = none → reads (refuse .noData)) ∧
    (∀ table, k = 1 → p.tiltTable = some table → reads (fun t =>
      if 24 < i then refuse .range t else ⟨.ok, [k, i0, i1] ++ signed2 (table.getD i 0), t⟩)) ∧
    (k = 2 → reads (fun t => (p.raiseMap.map (fun m => point m t)).getD (refuse .noData t))) ∧
    (k = 3 → reads (fun t => (p.lowerMap.map (fun m => point m t)).getD (refuse .noData t)))) ∧
  (∀ (r : Request) (s : State), Carries r [] →
    let target := targetAt s.store.active s.chain.s
    let design := target.map (fun t => s.run.dSet + t)
    let error := (measured s).bind (fun m => design.map (fun d => m.1 - d))
    let aged := (measured s).bind (fun m => (beam s m.2).accepted.map (fun h => age s.now.ms h.time))
    let x := s.test.result
    let phase : Byte := match s.test.phase with
      | .idle => 0
      | .waiting _ => 1
      | .stepping _ _ _ _ => 2
    let stepping : Option (TestRun × Nat) := match s.test.phase with
      | .idle => none
      | .waiting _ => none
      | .stepping t i _ _ => some (t, i)
    let step := stepping.map (fun q => q.2)
    let height := stepping.bind (fun q => (beam s q.1.beam).accepted.map (fun h => h.b))
    exec (.countersRead r) s = answered 0x72 r s (fun t =>
      let k := t.counters
      ⟨.ok, ([k.acceptedStrikes, k.jumpRejects, k.multiRejects, k.strikeGaps, k.malformed, k.fwdDropUD, k.fwdDropDU,
        k.staleTicks, k.traceDropped, k.noticeDropped, k.replyDropped].map bytes2).flatten, t⟩) ∧
    exec (.testResult r) s = answered 0x42 r s (fun t => ⟨.ok,
      [if x.outcome = .none then 0 else if x.outcome = .found then 1 else if x.outcome = .notFound then 2
        else if x.outcome = .wrongDirection then 3 else if x.outcome = .travel then 4
        else if x.outcome = .noBeam then 5 else if x.outcome = .offColumn then 6
        else if x.outcome = .request then 7 else if x.outcome = .stop then 8 else 9,
       presence [x.dir.isSome, x.beam.isSome, x.current.isSome, x.movement.isSome, x.duration.isSome,
        step.isSome, height.isSome],
       if x.dir = some .raise then 1 else if x.dir = some .lower then 2 else 0, (x.beam.map beamByte).getD 0]
      ++ bytes2 (x.current.getD 0) ++ signed2 (x.movement.getD 0) ++ bytes4 (x.duration.getD 0)
      ++ [phase] ++ bytes2 (step.getD 0) ++ signed2 (height.getD 0), t⟩) ∧
    exec (.snapshot r) s = answered 0x02 r s (fun t => ⟨.ok,
      [presence [(measured s).isSome, design.isSome, error.isSome, (reference s).isSome, s.depth.last.isSome,
        s.travel.last.isSome]] ++ bytes4 s.chain.s ++ signed4 (((measured s).map (fun m => m.1)).getD 0)
      ++ bytes4 (aged.getD 0) ++ signed4 (design.getD 0) ++ signed4 (error.getD 0) ++ bytes2 s.run.number
      ++ [flagByte s.run.isOpen, flagByte s.run.benched] ++ bytes4 s.run.start
      ++ [((reference s).map beamByte).getD 0]
      ++ ((s.depth.last.map (fun f => byte (dirCode f.dir) :: (bytes2 f.current ++ bytes2 f.magnitude ++ [f.seq]))).getD
        [0, 0, 0, 0, 0, 0])
      ++ ((s.travel.last.map (fun v => bytes2 v.limit ++ [byte (reasonCode v.reason)])).getD [0, 0, 0])
      ++ bytes2 (s.trace.tail - s.trace.mark.getD s.trace.read).toNat,
      if targetSaturates s.store.active s.chain.s then latch .targetSaturated none s.chain.s t else t⟩))

/-- Power-on takes the reset values, with the node number 16 plus the strap value, and a candidate at every line whose
level stands for ACTIVE. RESET queues its OK reply, marked for the departure that carries the master reset out, or at a
full queue resets at once. The master reset keeps the count and the node. The model's choices: the queue of commands and
the count of free choices stand (log 24), the levels at the pins stand (log 7), the moments of the last tick and the
last SYNC are those of the reset (log 23), and the record of the frames taken is kept by a master reset (log 6). -/
def Obligations.PowerOnAndReset : Prop :=
  (∀ s : State,
    let filter (l : Line) (f : LineFilter) (now : Clock) : LineFilter :=
      ⟨f.high, false, if (if l = .stop then !f.high else f.high) = true then some now else none⟩
    let lines (now : Clock) : Lines := ⟨filter .odo s.lines.odo now, filter .dir s.lines.dir now,
      filter .dig s.lines.dig now, filter .stop s.lines.stop now⟩
    (∀ straps : BitVec 3, exec (.powerOn straps) s = .next { State.reset with
      node := 16 + straps.setWidth 6, lines := lines ⟨0, 0⟩, pending := s.pending, choice := s.choice }) ∧
    masterReset s = { State.reset with
      now := s.now, node := s.node, lines := lines s.now
      tick := ⟨.internalTicks, s.now.ms, s.now.ms + 50, s.now.ms, false⟩
      portU := ⟨[], s.portU.sent⟩, portD := ⟨[], none, none, s.portD.sent⟩
      events := ⟨2, BitVec.allOnes 28⟩, pending := s.pending, choice := s.choice }) ∧
  (∀ (r : Request) (s : State), Carries r [] →
    let t := forwardRequest s.node 0x03 r s
    let reply : CanFrame := ⟨.ext (identOf 5 0x41 r.src s.node r.tag), .data .fd,
      [0x03, 0, byte (stateCode s.ctl.state), 0]⟩
    exec (.reset r) s = .next (if t.portU.queue.length < 32 then
      { t with portU := { t.portU with queue := t.portU.queue ++ [⟨reply, true⟩] } } else masterReset t))

/-- CLEAR_RUN in every control state: a running test ends with ABORTED_REQUEST, a pending profile is taken over, the run
is closed with its number kept, the state becomes STANDBY, or stays TRIPPED, and the beam table, the chainage unit, the
demand memory, the off-column indication and the trace take their reset values. STANDBY's entry is the same from
STANDBY (log 14), and its TRAVEL 10,000 NONE follows the update mode, pending and not yet held under SYNCHRONOUS
(DEDUCED, log 42). -/
def Obligations.ClearRun : Prop :=
  ∀ (r : Request) (s : State), Carries r [] →
    let cleared (v : State) : State :=
      let a := if s.store.takeover.isSome then swapped v else v
      let b : State := { a with
        run := { s.run with isOpen := false, benched := false, dSet := 0 }
        ctl := { s.ctl with prior := none, memory := 0 } }
      let c := if s.ctl.state = .tripped then b else released .standby b
      { c with
        beams := resetBeams, chain := ⟨0, 0, 0, 0, 0⟩
        ctl := { c.ctl with offColumn := false }
        trace := ⟨0, 0, none, 0, [], s.trace.gateOpen⟩ }
    let ended (t : TestRun) (current : Option Nat) (u : State) : State :=
      { latch .testDone (some t.beam) s.chain.s (neutralSent u) with
        test := ⟨.idle, resultOf .request t current s⟩ }
    let clears (f : State → State) : Prop :=
      exec (.clearRun r) s = answered 0x04 r s (fun u => ⟨.ok, bytes2 s.run.number, cleared (f u)⟩)
    (s.test.phase = .idle → clears id) ∧
    (∀ t, s.test.phase = .waiting t → clears (ended t none)) ∧
    (∀ t i m m', s.test.phase = .stepping t i m m' → clears (ended t (some i)))

/-- A well-formed MANUAL_VALVE frame: forwarded in STANDBY and MANUAL; in AUTO, HOLD and SUSPENDED a non-neutral one
hands control back, latches OVERRIDE and is forwarded, a neutral one is dropped; in TEST a non-neutral one ends the test
with ABORTED_OVERRIDE and is forwarded; in TRIPPED all are dropped. No table entry acts on it. -/
def Obligations.ManualValveGate : Prop :=
  ∀ (f : Arrival) (s : State) (dir d0 d1 : Byte) (rest : List Byte), f.data = dir :: d0 :: d1 :: rest →
    dir.toNat ≤ 2 → word2 d0 d1 ≤ 10000 →
    let moves := dir ≠ 0 ∧ 0 < word2 d0 d1
    let frame : CanFrame := ⟨.ext (identOf f.prio 0x30 f.dest f.src f.tag), .data f.format, f.data⟩
    let becomes (t : State) : Prop := exec (.manualValve f) s = .next t
    (s.ctl.state = .standby ∨ s.ctl.state = .manual → becomes (forwardFrom .u frame s)) ∧
    (s.ctl.state = .auto ∨ s.ctl.state = .hold ∨ s.ctl.state = .suspended →
      (moves → becomes (forwardFrom .u frame (latch .override none s.chain.s (released .manual s)))) ∧
      (¬ moves → becomes s)) ∧
    (s.ctl.state = .test →
      (¬ moves → becomes s) ∧
      (∀ t back, moves → s.ctl.prior = some back → back = .standby ∨ back = .manual →
        (s.test.phase = .waiting t → becomes (forwardFrom .u frame (testEnded .override back t none s))) ∧
        (∀ i m m', s.test.phase = .stepping t i m m' →
          becomes (forwardFrom .u frame (testEnded .override back t (some i) s))))) ∧
    (s.ctl.state = .tripped → becomes s)

/-- TRACE_READ carries up to two records and the counts after the advance, NO_DATA with none unread. TRACE_MARK marks the
read pointer and releases the records before it, TRACE_UNMARK releases them and holds no mark, TRACE_REWIND takes the
read pointer back to the mark, STATE without one; streaming follows each, and their replies carry the counts after it
(log 13). TRACE_GATE sets the gate state. -/
def Obligations.TraceRequests : Prop :=
  ∀ (r : Request) (s : State),
    let unread (t : Trace) : Nat := (t.tail - t.read).toNat
    let held (t : Trace) : Nat := (t.tail - t.mark.getD t.read).toNat
    let counts (t : State) : List Byte := bytes2 (unread t.trace) ++ bytes2 (held t.trace)
    let before := (s.trace.read - s.trace.mark.getD s.trace.read).toNat
    let k := min 2 (unread s.trace)
    let records := (s.trace.kept.drop before).take k
    let replaced (t : State) (x : Trace) : Answer :=
      let u := burst { t with trace := x }
      ⟨.ok, counts u, u⟩
    (Carries r [] →
      exec (.traceRead r) s = answered 0x60 r s (fun t =>
        if unread s.trace = 0 then refuse .noData t
        else
          let u : State := { t with trace := { s.trace with
            read := s.trace.read + BitVec.ofNat 32 k
            kept := if s.trace.mark = none then s.trace.kept.drop k else s.trace.kept } }
          ⟨.ok, [byte records.length] ++ counts u ++ (records.map recordBytes).flatten, u⟩) ∧
      exec (.traceMark r) s = answered 0x61 r s (fun t =>
        replaced t { s.trace with mark := some s.trace.read, kept := s.trace.kept.drop before }) ∧
      exec (.traceUnmark r) s = answered 0x62 r s (fun t =>
        replaced t { s.trace with mark := none, kept := s.trace.kept.drop before }) ∧
      (s.trace.mark = none → exec (.traceRewind r) s = answered 0x63 r s (refuse .state)) ∧
      (∀ m, s.trace.mark = some m → exec (.traceRewind r) s = answered 0x63 r s (fun t =>
        replaced t { s.trace with read := m }))) ∧
    (∀ b : Byte, Carries r [b] → exec (.traceGate r) s = answered 0x64 r s (fun t =>
      if b = 0 ∨ b = 1 then ⟨.ok, [], { t with trace := { s.trace with gateOpen := b = 1 } }⟩
      else refuse .range t))

/-- FWD_WRITE puts a whole entry at an index of 0 to 23 when every field is in its range, RANGE else (an in-use code other
than 0 and 1 being outside its range is the model's reading, log 15). EVENT_READ carries the latches and the mask and
clears every latch. MASK_WRITE takes a mask of 28 bits, RANGE above. COUNTERS_CLEAR sets every counter to 0. -/
def Obligations.ReportSettings : Prop :=
  (∀ (r : Request) (s : State) (i use ing act v0 v1 v2 v3 m0 m1 m2 m3 : Byte),
    Carries r [i, use, ing, act, v0, v1, v2, v3, m0, m1, m2, m3] →
    let v := word4 v0 v1 v2 v3
    let m := word4 m0 m1 m2 m3
    let entry : FwdEntry := ⟨use = 1, if ing = 0 then .u else if ing = 1 then .d else .either,
      BitVec.ofNat 29 v, BitVec.ofNat 29 m, if act = 0 then .pass else .block⟩
    exec (.fwdWrite r) s = answered 0x50 r s (fun t =>
      if i.toNat ≤ 23 ∧ use.toNat ≤ 1 ∧ ing.toNat ≤ 2 ∧ act.toNat ≤ 1 ∧ v < 2 ^ 29 ∧ m < 2 ^ 29 then
        ⟨.ok, [], { t with fwd := s.fwd.set i.toNat entry }⟩
      else refuse .range t)) ∧
  (∀ (r : Request) (s : State) (m0 m1 m2 m3 : Byte), Carries r [m0, m1, m2, m3] →
    let m := word4 m0 m1 m2 m3
    exec (.maskWrite r) s = answered 0x71 r s (fun t =>
      if m < 2 ^ 28 then ⟨.ok, [m0, m1, m2, m3], { t with events := ⟨t.events.latches, BitVec.ofNat 28 m⟩ }⟩
      else refuse .range t)) ∧
  (∀ (r : Request) (s : State), Carries r [] →
    exec (.eventRead r) s = answered 0x70 r s (fun t => ⟨.ok,
      bytes4 t.events.latches.toNat ++ bytes4 s.events.mask.toNat, { t with events := ⟨0, s.events.mask⟩ }⟩) ∧
    exec (.countersClear r) s = answered 0x73 r s (fun t =>
      ⟨.ok, [], { t with counters := ⟨0, 0, 0, 0, 0, 0, 0, 0, 0, 0, 0⟩ }⟩))
end

