-- ==== Sys2Proof/Laws/State.lean ====
section
/-! SUPPORT. What each plain update of the state changes, field by field, each true by rfl. -/

namespace Sys2Proof.Machine

@[simp] theorem setLatch_now (e : Event) (s : State) : (setLatch e s).now = s.now := rfl
@[simp] theorem setLatch_node (e : Event) (s : State) : (setLatch e s).node = s.node := rfl
@[simp] theorem setLatch_params (e : Event) (s : State) : (setLatch e s).params = s.params := rfl
@[simp] theorem setLatch_lines (e : Event) (s : State) : (setLatch e s).lines = s.lines := rfl
@[simp] theorem setLatch_chain (e : Event) (s : State) : (setLatch e s).chain = s.chain := rfl
@[simp] theorem setLatch_beams (e : Event) (s : State) : (setLatch e s).beams = s.beams := rfl
@[simp] theorem setLatch_tilt (e : Event) (s : State) : (setLatch e s).tilt = s.tilt := rfl
@[simp] theorem setLatch_store (e : Event) (s : State) : (setLatch e s).store = s.store := rfl
@[simp] theorem setLatch_run (e : Event) (s : State) : (setLatch e s).run = s.run := rfl
@[simp] theorem setLatch_ctl (e : Event) (s : State) : (setLatch e s).ctl = s.ctl := rfl
@[simp] theorem setLatch_depth (e : Event) (s : State) : (setLatch e s).depth = s.depth := rfl
@[simp] theorem setLatch_travel (e : Event) (s : State) : (setLatch e s).travel = s.travel := rfl
@[simp] theorem setLatch_tick (e : Event) (s : State) : (setLatch e s).tick = s.tick := rfl
@[simp] theorem setLatch_test (e : Event) (s : State) : (setLatch e s).test = s.test := rfl
@[simp] theorem setLatch_trace (e : Event) (s : State) : (setLatch e s).trace = s.trace := rfl
@[simp] theorem setLatch_fwd (e : Event) (s : State) : (setLatch e s).fwd = s.fwd := rfl
@[simp] theorem setLatch_portU (e : Event) (s : State) : (setLatch e s).portU = s.portU := rfl
@[simp] theorem setLatch_portD (e : Event) (s : State) : (setLatch e s).portD = s.portD := rfl
@[simp] theorem setLatch_events (e : Event) (s : State) :
    (setLatch e s).events = { s.events with latches := s.events.latches ||| (1 <<< eventNo e) } := rfl
@[simp] theorem setLatch_counters (e : Event) (s : State) : (setLatch e s).counters = s.counters := rfl
@[simp] theorem setLatch_pending (e : Event) (s : State) : (setLatch e s).pending = s.pending := rfl
@[simp] theorem setLatch_choice (e : Event) (s : State) : (setLatch e s).choice = s.choice := rfl

@[simp] theorem count_now (c : Counter) (n : Nat) (s : State) : (count c n s).now = s.now := rfl
@[simp] theorem count_node (c : Counter) (n : Nat) (s : State) : (count c n s).node = s.node := rfl
@[simp] theorem count_params (c : Counter) (n : Nat) (s : State) : (count c n s).params = s.params := rfl
@[simp] theorem count_lines (c : Counter) (n : Nat) (s : State) : (count c n s).lines = s.lines := rfl
@[simp] theorem count_chain (c : Counter) (n : Nat) (s : State) : (count c n s).chain = s.chain := rfl
@[simp] theorem count_beams (c : Counter) (n : Nat) (s : State) : (count c n s).beams = s.beams := rfl
@[simp] theorem count_tilt (c : Counter) (n : Nat) (s : State) : (count c n s).tilt = s.tilt := rfl
@[simp] theorem count_store (c : Counter) (n : Nat) (s : State) : (count c n s).store = s.store := rfl
@[simp] theorem count_run (c : Counter) (n : Nat) (s : State) : (count c n s).run = s.run := rfl
@[simp] theorem count_ctl (c : Counter) (n : Nat) (s : State) : (count c n s).ctl = s.ctl := rfl
@[simp] theorem count_depth (c : Counter) (n : Nat) (s : State) : (count c n s).depth = s.depth := rfl
@[simp] theorem count_travel (c : Counter) (n : Nat) (s : State) : (count c n s).travel = s.travel := rfl
@[simp] theorem count_tick (c : Counter) (n : Nat) (s : State) : (count c n s).tick = s.tick := rfl
@[simp] theorem count_test (c : Counter) (n : Nat) (s : State) : (count c n s).test = s.test := rfl
@[simp] theorem count_trace (c : Counter) (n : Nat) (s : State) : (count c n s).trace = s.trace := rfl
@[simp] theorem count_fwd (c : Counter) (n : Nat) (s : State) : (count c n s).fwd = s.fwd := rfl
@[simp] theorem count_portU (c : Counter) (n : Nat) (s : State) : (count c n s).portU = s.portU := rfl
@[simp] theorem count_portD (c : Counter) (n : Nat) (s : State) : (count c n s).portD = s.portD := rfl
@[simp] theorem count_events (c : Counter) (n : Nat) (s : State) : (count c n s).events = s.events := rfl
@[simp] theorem count_counters (c : Counter) (n : Nat) (s : State) :
    (count c n s).counters = putCounter s.counters c (min 65535 (counterOf s.counters c + n)) := rfl
@[simp] theorem count_pending (c : Counter) (n : Nat) (s : State) : (count c n s).pending = s.pending := rfl
@[simp] theorem count_choice (c : Counter) (n : Nat) (s : State) : (count c n s).choice = s.choice := rfl

@[simp] theorem pushU_now (q : QueuedU) (s : State) : (pushU q s).now = s.now := rfl
@[simp] theorem pushU_node (q : QueuedU) (s : State) : (pushU q s).node = s.node := rfl
@[simp] theorem pushU_params (q : QueuedU) (s : State) : (pushU q s).params = s.params := rfl
@[simp] theorem pushU_lines (q : QueuedU) (s : State) : (pushU q s).lines = s.lines := rfl
@[simp] theorem pushU_chain (q : QueuedU) (s : State) : (pushU q s).chain = s.chain := rfl
@[simp] theorem pushU_beams (q : QueuedU) (s : State) : (pushU q s).beams = s.beams := rfl
@[simp] theorem pushU_tilt (q : QueuedU) (s : State) : (pushU q s).tilt = s.tilt := rfl
@[simp] theorem pushU_store (q : QueuedU) (s : State) : (pushU q s).store = s.store := rfl
@[simp] theorem pushU_run (q : QueuedU) (s : State) : (pushU q s).run = s.run := rfl
@[simp] theorem pushU_ctl (q : QueuedU) (s : State) : (pushU q s).ctl = s.ctl := rfl
@[simp] theorem pushU_depth (q : QueuedU) (s : State) : (pushU q s).depth = s.depth := rfl
@[simp] theorem pushU_travel (q : QueuedU) (s : State) : (pushU q s).travel = s.travel := rfl
@[simp] theorem pushU_tick (q : QueuedU) (s : State) : (pushU q s).tick = s.tick := rfl
@[simp] theorem pushU_test (q : QueuedU) (s : State) : (pushU q s).test = s.test := rfl
@[simp] theorem pushU_trace (q : QueuedU) (s : State) : (pushU q s).trace = s.trace := rfl
@[simp] theorem pushU_fwd (q : QueuedU) (s : State) : (pushU q s).fwd = s.fwd := rfl
@[simp] theorem pushU_portU (q : QueuedU) (s : State) :
    (pushU q s).portU = { s.portU with queue := s.portU.queue ++ [q] } := rfl
@[simp] theorem pushU_portD (q : QueuedU) (s : State) : (pushU q s).portD = s.portD := rfl
@[simp] theorem pushU_events (q : QueuedU) (s : State) : (pushU q s).events = s.events := rfl
@[simp] theorem pushU_counters (q : QueuedU) (s : State) : (pushU q s).counters = s.counters := rfl
@[simp] theorem pushU_pending (q : QueuedU) (s : State) : (pushU q s).pending = s.pending := rfl
@[simp] theorem pushU_choice (q : QueuedU) (s : State) : (pushU q s).choice = s.choice := rfl

@[simp] theorem discardManualValve_now (s : State) : (discardManualValve s).now = s.now := rfl
@[simp] theorem discardManualValve_node (s : State) : (discardManualValve s).node = s.node := rfl
@[simp] theorem discardManualValve_params (s : State) : (discardManualValve s).params = s.params := rfl
@[simp] theorem discardManualValve_lines (s : State) : (discardManualValve s).lines = s.lines := rfl
@[simp] theorem discardManualValve_chain (s : State) : (discardManualValve s).chain = s.chain := rfl
@[simp] theorem discardManualValve_beams (s : State) : (discardManualValve s).beams = s.beams := rfl
@[simp] theorem discardManualValve_tilt (s : State) : (discardManualValve s).tilt = s.tilt := rfl
@[simp] theorem discardManualValve_store (s : State) : (discardManualValve s).store = s.store := rfl
@[simp] theorem discardManualValve_run (s : State) : (discardManualValve s).run = s.run := rfl
@[simp] theorem discardManualValve_ctl (s : State) : (discardManualValve s).ctl = s.ctl := rfl
@[simp] theorem discardManualValve_depth (s : State) : (discardManualValve s).depth = s.depth := rfl
@[simp] theorem discardManualValve_travel (s : State) : (discardManualValve s).travel = s.travel := rfl
@[simp] theorem discardManualValve_tick (s : State) : (discardManualValve s).tick = s.tick := rfl
@[simp] theorem discardManualValve_test (s : State) : (discardManualValve s).test = s.test := rfl
@[simp] theorem discardManualValve_trace (s : State) : (discardManualValve s).trace = s.trace := rfl
@[simp] theorem discardManualValve_fwd (s : State) : (discardManualValve s).fwd = s.fwd := rfl
@[simp] theorem discardManualValve_portU (s : State) : (discardManualValve s).portU = s.portU := rfl
@[simp] theorem discardManualValve_portD (s : State) :
    (discardManualValve s).portD = { s.portD with queue := s.portD.queue.filter (fun f => !isManualValve f) } := rfl
@[simp] theorem discardManualValve_events (s : State) : (discardManualValve s).events = s.events := rfl
@[simp] theorem discardManualValve_counters (s : State) : (discardManualValve s).counters = s.counters := rfl
@[simp] theorem discardManualValve_pending (s : State) : (discardManualValve s).pending = s.pending := rfl
@[simp] theorem discardManualValve_choice (s : State) : (discardManualValve s).choice = s.choice := rfl

@[simp] theorem setBeam_now (c : BeamCode) (e : Beam) (s : State) : (setBeam c e s).now = s.now := rfl
@[simp] theorem setBeam_node (c : BeamCode) (e : Beam) (s : State) : (setBeam c e s).node = s.node := rfl
@[simp] theorem setBeam_params (c : BeamCode) (e : Beam) (s : State) : (setBeam c e s).params = s.params := rfl
@[simp] theorem setBeam_lines (c : BeamCode) (e : Beam) (s : State) : (setBeam c e s).lines = s.lines := rfl
@[simp] theorem setBeam_chain (c : BeamCode) (e : Beam) (s : State) : (setBeam c e s).chain = s.chain := rfl
@[simp] theorem setBeam_beams (c : BeamCode) (e : Beam) (s : State) :
    (setBeam c e s).beams = putBeam s.beams c e := rfl
@[simp] theorem setBeam_tilt (c : BeamCode) (e : Beam) (s : State) : (setBeam c e s).tilt = s.tilt := rfl
@[simp] theorem setBeam_store (c : BeamCode) (e : Beam) (s : State) : (setBeam c e s).store = s.store := rfl
@[simp] theorem setBeam_run (c : BeamCode) (e : Beam) (s : State) : (setBeam c e s).run = s.run := rfl
@[simp] theorem setBeam_ctl (c : BeamCode) (e : Beam) (s : State) : (setBeam c e s).ctl = s.ctl := rfl
@[simp] theorem setBeam_depth (c : BeamCode) (e : Beam) (s : State) : (setBeam c e s).depth = s.depth := rfl
@[simp] theorem setBeam_travel (c : BeamCode) (e : Beam) (s : State) : (setBeam c e s).travel = s.travel := rfl
@[simp] theorem setBeam_tick (c : BeamCode) (e : Beam) (s : State) : (setBeam c e s).tick = s.tick := rfl
@[simp] theorem setBeam_test (c : BeamCode) (e : Beam) (s : State) : (setBeam c e s).test = s.test := rfl
@[simp] theorem setBeam_trace (c : BeamCode) (e : Beam) (s : State) : (setBeam c e s).trace = s.trace := rfl
@[simp] theorem setBeam_fwd (c : BeamCode) (e : Beam) (s : State) : (setBeam c e s).fwd = s.fwd := rfl
@[simp] theorem setBeam_portU (c : BeamCode) (e : Beam) (s : State) : (setBeam c e s).portU = s.portU := rfl
@[simp] theorem setBeam_portD (c : BeamCode) (e : Beam) (s : State) : (setBeam c e s).portD = s.portD := rfl
@[simp] theorem setBeam_events (c : BeamCode) (e : Beam) (s : State) : (setBeam c e s).events = s.events := rfl
@[simp] theorem setBeam_counters (c : BeamCode) (e : Beam) (s : State) : (setBeam c e s).counters = s.counters := rfl
@[simp] theorem setBeam_pending (c : BeamCode) (e : Beam) (s : State) : (setBeam c e s).pending = s.pending := rfl
@[simp] theorem setBeam_choice (c : BeamCode) (e : Beam) (s : State) : (setBeam c e s).choice = s.choice := rfl

@[simp] theorem mapBeams_now (f : Beam → Beam) (s : State) : (mapBeams f s).now = s.now := rfl
@[simp] theorem mapBeams_node (f : Beam → Beam) (s : State) : (mapBeams f s).node = s.node := rfl
@[simp] theorem mapBeams_params (f : Beam → Beam) (s : State) : (mapBeams f s).params = s.params := rfl
@[simp] theorem mapBeams_lines (f : Beam → Beam) (s : State) : (mapBeams f s).lines = s.lines := rfl
@[simp] theorem mapBeams_chain (f : Beam → Beam) (s : State) : (mapBeams f s).chain = s.chain := rfl
@[simp] theorem mapBeams_beams (f : Beam → Beam) (s : State) :
    (mapBeams f s).beams = ⟨f s.beams.e0, f s.beams.e1, f s.beams.e2, f s.beams.e3⟩ := rfl
@[simp] theorem mapBeams_tilt (f : Beam → Beam) (s : State) : (mapBeams f s).tilt = s.tilt := rfl
@[simp] theorem mapBeams_store (f : Beam → Beam) (s : State) : (mapBeams f s).store = s.store := rfl
@[simp] theorem mapBeams_run (f : Beam → Beam) (s : State) : (mapBeams f s).run = s.run := rfl
@[simp] theorem mapBeams_ctl (f : Beam → Beam) (s : State) : (mapBeams f s).ctl = s.ctl := rfl
@[simp] theorem mapBeams_depth (f : Beam → Beam) (s : State) : (mapBeams f s).depth = s.depth := rfl
@[simp] theorem mapBeams_travel (f : Beam → Beam) (s : State) : (mapBeams f s).travel = s.travel := rfl
@[simp] theorem mapBeams_tick (f : Beam → Beam) (s : State) : (mapBeams f s).tick = s.tick := rfl
@[simp] theorem mapBeams_test (f : Beam → Beam) (s : State) : (mapBeams f s).test = s.test := rfl
@[simp] theorem mapBeams_trace (f : Beam → Beam) (s : State) : (mapBeams f s).trace = s.trace := rfl
@[simp] theorem mapBeams_fwd (f : Beam → Beam) (s : State) : (mapBeams f s).fwd = s.fwd := rfl
@[simp] theorem mapBeams_portU (f : Beam → Beam) (s : State) : (mapBeams f s).portU = s.portU := rfl
@[simp] theorem mapBeams_portD (f : Beam → Beam) (s : State) : (mapBeams f s).portD = s.portD := rfl
@[simp] theorem mapBeams_events (f : Beam → Beam) (s : State) : (mapBeams f s).events = s.events := rfl
@[simp] theorem mapBeams_counters (f : Beam → Beam) (s : State) : (mapBeams f s).counters = s.counters := rfl
@[simp] theorem mapBeams_pending (f : Beam → Beam) (s : State) : (mapBeams f s).pending = s.pending := rfl
@[simp] theorem mapBeams_choice (f : Beam → Beam) (s : State) : (mapBeams f s).choice = s.choice := rfl

@[simp] theorem holdDepth_now (v : DepthValue) (s : State) : (holdDepth v s).now = s.now := rfl
@[simp] theorem holdDepth_node (v : DepthValue) (s : State) : (holdDepth v s).node = s.node := rfl
@[simp] theorem holdDepth_params (v : DepthValue) (s : State) : (holdDepth v s).params = s.params := rfl
@[simp] theorem holdDepth_lines (v : DepthValue) (s : State) : (holdDepth v s).lines = s.lines := rfl
@[simp] theorem holdDepth_chain (v : DepthValue) (s : State) : (holdDepth v s).chain = s.chain := rfl
@[simp] theorem holdDepth_beams (v : DepthValue) (s : State) : (holdDepth v s).beams = s.beams := rfl
@[simp] theorem holdDepth_tilt (v : DepthValue) (s : State) : (holdDepth v s).tilt = s.tilt := rfl
@[simp] theorem holdDepth_store (v : DepthValue) (s : State) : (holdDepth v s).store = s.store := rfl
@[simp] theorem holdDepth_run (v : DepthValue) (s : State) : (holdDepth v s).run = s.run := rfl
@[simp] theorem holdDepth_ctl (v : DepthValue) (s : State) : (holdDepth v s).ctl = s.ctl := rfl
@[simp] theorem holdDepth_depth (v : DepthValue) (s : State) :
    (holdDepth v s).depth = { s.depth with held := v } := rfl
@[simp] theorem holdDepth_travel (v : DepthValue) (s : State) : (holdDepth v s).travel = s.travel := rfl
@[simp] theorem holdDepth_tick (v : DepthValue) (s : State) : (holdDepth v s).tick = s.tick := rfl
@[simp] theorem holdDepth_test (v : DepthValue) (s : State) : (holdDepth v s).test = s.test := rfl
@[simp] theorem holdDepth_trace (v : DepthValue) (s : State) : (holdDepth v s).trace = s.trace := rfl
@[simp] theorem holdDepth_fwd (v : DepthValue) (s : State) : (holdDepth v s).fwd = s.fwd := rfl
@[simp] theorem holdDepth_portU (v : DepthValue) (s : State) : (holdDepth v s).portU = s.portU := rfl
@[simp] theorem holdDepth_portD (v : DepthValue) (s : State) : (holdDepth v s).portD = s.portD := rfl
@[simp] theorem holdDepth_events (v : DepthValue) (s : State) : (holdDepth v s).events = s.events := rfl
@[simp] theorem holdDepth_counters (v : DepthValue) (s : State) : (holdDepth v s).counters = s.counters := rfl
@[simp] theorem holdDepth_pending (v : DepthValue) (s : State) : (holdDepth v s).pending = s.pending := rfl
@[simp] theorem holdDepth_choice (v : DepthValue) (s : State) : (holdDepth v s).choice = s.choice := rfl

@[simp] theorem placeDepth_now (f : DepthFrame) (s : State) : (placeDepth f s).now = s.now := rfl
@[simp] theorem placeDepth_node (f : DepthFrame) (s : State) : (placeDepth f s).node = s.node := rfl
@[simp] theorem placeDepth_params (f : DepthFrame) (s : State) : (placeDepth f s).params = s.params := rfl
@[simp] theorem placeDepth_lines (f : DepthFrame) (s : State) : (placeDepth f s).lines = s.lines := rfl
@[simp] theorem placeDepth_chain (f : DepthFrame) (s : State) : (placeDepth f s).chain = s.chain := rfl
@[simp] theorem placeDepth_beams (f : DepthFrame) (s : State) : (placeDepth f s).beams = s.beams := rfl
@[simp] theorem placeDepth_tilt (f : DepthFrame) (s : State) : (placeDepth f s).tilt = s.tilt := rfl
@[simp] theorem placeDepth_store (f : DepthFrame) (s : State) : (placeDepth f s).store = s.store := rfl
@[simp] theorem placeDepth_run (f : DepthFrame) (s : State) : (placeDepth f s).run = s.run := rfl
@[simp] theorem placeDepth_ctl (f : DepthFrame) (s : State) : (placeDepth f s).ctl = s.ctl := rfl
@[simp] theorem placeDepth_travel (f : DepthFrame) (s : State) : (placeDepth f s).travel = s.travel := rfl
@[simp] theorem placeDepth_tick (f : DepthFrame) (s : State) : (placeDepth f s).tick = s.tick := rfl
@[simp] theorem placeDepth_test (f : DepthFrame) (s : State) : (placeDepth f s).test = s.test := rfl
@[simp] theorem placeDepth_trace (f : DepthFrame) (s : State) : (placeDepth f s).trace = s.trace := rfl
@[simp] theorem placeDepth_fwd (f : DepthFrame) (s : State) : (placeDepth f s).fwd = s.fwd := rfl
@[simp] theorem placeDepth_portU (f : DepthFrame) (s : State) : (placeDepth f s).portU = s.portU := rfl
@[simp] theorem placeDepth_portD (f : DepthFrame) (s : State) :
    (placeDepth f s).portD = { s.portD with depthSlot := some (valveCmd f s) } := rfl
@[simp] theorem placeDepth_events (f : DepthFrame) (s : State) : (placeDepth f s).events = s.events := rfl
@[simp] theorem placeDepth_counters (f : DepthFrame) (s : State) : (placeDepth f s).counters = s.counters := rfl
@[simp] theorem placeDepth_pending (f : DepthFrame) (s : State) : (placeDepth f s).pending = s.pending := rfl
@[simp] theorem placeDepth_choice (f : DepthFrame) (s : State) : (placeDepth f s).choice = s.choice := rfl

@[simp] theorem emitTravel_now (s : State) : (emitTravel s).now = s.now := rfl
@[simp] theorem emitTravel_node (s : State) : (emitTravel s).node = s.node := rfl
@[simp] theorem emitTravel_params (s : State) : (emitTravel s).params = s.params := rfl
@[simp] theorem emitTravel_lines (s : State) : (emitTravel s).lines = s.lines := rfl
@[simp] theorem emitTravel_chain (s : State) : (emitTravel s).chain = s.chain := rfl
@[simp] theorem emitTravel_beams (s : State) : (emitTravel s).beams = s.beams := rfl
@[simp] theorem emitTravel_tilt (s : State) : (emitTravel s).tilt = s.tilt := rfl
@[simp] theorem emitTravel_store (s : State) : (emitTravel s).store = s.store := rfl
@[simp] theorem emitTravel_run (s : State) : (emitTravel s).run = s.run := rfl
@[simp] theorem emitTravel_ctl (s : State) : (emitTravel s).ctl = s.ctl := rfl
@[simp] theorem emitTravel_depth (s : State) : (emitTravel s).depth = s.depth := rfl
@[simp] theorem emitTravel_travel (s : State) :
    (emitTravel s).travel = { s.travel with last := some s.travel.held, emitted := true } := rfl
@[simp] theorem emitTravel_tick (s : State) : (emitTravel s).tick = s.tick := rfl
@[simp] theorem emitTravel_test (s : State) : (emitTravel s).test = s.test := rfl
@[simp] theorem emitTravel_trace (s : State) : (emitTravel s).trace = s.trace := rfl
@[simp] theorem emitTravel_fwd (s : State) : (emitTravel s).fwd = s.fwd := rfl
@[simp] theorem emitTravel_portU (s : State) : (emitTravel s).portU = s.portU := rfl
@[simp] theorem emitTravel_portD (s : State) :
    (emitTravel s).portD = { s.portD with travelSlot := some (travelCmd s.travel.held s) } := rfl
@[simp] theorem emitTravel_events (s : State) : (emitTravel s).events = s.events := rfl
@[simp] theorem emitTravel_counters (s : State) : (emitTravel s).counters = s.counters := rfl
@[simp] theorem emitTravel_pending (s : State) : (emitTravel s).pending = s.pending := rfl
@[simp] theorem emitTravel_choice (s : State) : (emitTravel s).choice = s.choice := rfl

@[simp] theorem silence_now (s : State) : (silence s).now = s.now := rfl
@[simp] theorem silence_node (s : State) : (silence s).node = s.node := rfl
@[simp] theorem silence_params (s : State) : (silence s).params = s.params := rfl
@[simp] theorem silence_lines (s : State) : (silence s).lines = s.lines := rfl
@[simp] theorem silence_chain (s : State) : (silence s).chain = s.chain := rfl
@[simp] theorem silence_beams (s : State) : (silence s).beams = s.beams := rfl
@[simp] theorem silence_tilt (s : State) : (silence s).tilt = s.tilt := rfl
@[simp] theorem silence_store (s : State) : (silence s).store = s.store := rfl
@[simp] theorem silence_run (s : State) : (silence s).run = s.run := rfl
@[simp] theorem silence_ctl (s : State) : (silence s).ctl = s.ctl := rfl
@[simp] theorem silence_depth (s : State) :
    (silence s).depth = { s.depth with waiting := none, fresh := false, held := .neutral } := rfl
@[simp] theorem silence_travel (s : State) : (silence s).travel = s.travel := rfl
@[simp] theorem silence_tick (s : State) : (silence s).tick = s.tick := rfl
@[simp] theorem silence_test (s : State) : (silence s).test = s.test := rfl
@[simp] theorem silence_trace (s : State) : (silence s).trace = s.trace := rfl
@[simp] theorem silence_fwd (s : State) : (silence s).fwd = s.fwd := rfl
@[simp] theorem silence_portU (s : State) : (silence s).portU = s.portU := rfl
@[simp] theorem silence_portD (s : State) : (silence s).portD = s.portD := rfl
@[simp] theorem silence_events (s : State) : (silence s).events = s.events := rfl
@[simp] theorem silence_counters (s : State) : (silence s).counters = s.counters := rfl
@[simp] theorem silence_pending (s : State) : (silence s).pending = s.pending := rfl
@[simp] theorem silence_choice (s : State) : (silence s).choice = s.choice := rfl

@[simp] theorem setState_now (new : CtlState) (s : State) : (setState new s).now = s.now := rfl
@[simp] theorem setState_node (new : CtlState) (s : State) : (setState new s).node = s.node := rfl
@[simp] theorem setState_params (new : CtlState) (s : State) : (setState new s).params = s.params := rfl
@[simp] theorem setState_lines (new : CtlState) (s : State) : (setState new s).lines = s.lines := rfl
@[simp] theorem setState_chain (new : CtlState) (s : State) : (setState new s).chain = s.chain := rfl
@[simp] theorem setState_beams (new : CtlState) (s : State) : (setState new s).beams = s.beams := rfl
@[simp] theorem setState_tilt (new : CtlState) (s : State) : (setState new s).tilt = s.tilt := rfl
@[simp] theorem setState_store (new : CtlState) (s : State) : (setState new s).store = s.store := rfl
@[simp] theorem setState_run (new : CtlState) (s : State) : (setState new s).run = s.run := rfl
@[simp] theorem setState_depth (new : CtlState) (s : State) : (setState new s).depth = s.depth := rfl
@[simp] theorem setState_travel (new : CtlState) (s : State) : (setState new s).travel = s.travel := rfl
@[simp] theorem setState_tick (new : CtlState) (s : State) : (setState new s).tick = s.tick := rfl
@[simp] theorem setState_test (new : CtlState) (s : State) : (setState new s).test = s.test := rfl
@[simp] theorem setState_trace (new : CtlState) (s : State) : (setState new s).trace = s.trace := rfl
@[simp] theorem setState_fwd (new : CtlState) (s : State) : (setState new s).fwd = s.fwd := rfl
@[simp] theorem setState_portU (new : CtlState) (s : State) : (setState new s).portU = s.portU := rfl
@[simp] theorem setState_portD (new : CtlState) (s : State) : (setState new s).portD = s.portD := rfl
@[simp] theorem setState_events (new : CtlState) (s : State) : (setState new s).events = s.events := rfl
@[simp] theorem setState_counters (new : CtlState) (s : State) : (setState new s).counters = s.counters := rfl
@[simp] theorem setState_pending (new : CtlState) (s : State) : (setState new s).pending = s.pending := rfl
@[simp] theorem setState_choice (new : CtlState) (s : State) : (setState new s).choice = s.choice := rfl

@[simp] theorem setMemory_now (u : Int) (s : State) : (setMemory u s).now = s.now := rfl
@[simp] theorem setMemory_node (u : Int) (s : State) : (setMemory u s).node = s.node := rfl
@[simp] theorem setMemory_params (u : Int) (s : State) : (setMemory u s).params = s.params := rfl
@[simp] theorem setMemory_lines (u : Int) (s : State) : (setMemory u s).lines = s.lines := rfl
@[simp] theorem setMemory_chain (u : Int) (s : State) : (setMemory u s).chain = s.chain := rfl
@[simp] theorem setMemory_beams (u : Int) (s : State) : (setMemory u s).beams = s.beams := rfl
@[simp] theorem setMemory_tilt (u : Int) (s : State) : (setMemory u s).tilt = s.tilt := rfl
@[simp] theorem setMemory_store (u : Int) (s : State) : (setMemory u s).store = s.store := rfl
@[simp] theorem setMemory_run (u : Int) (s : State) : (setMemory u s).run = s.run := rfl
@[simp] theorem setMemory_ctl (u : Int) (s : State) :
    (setMemory u s).ctl = { s.ctl with memory := u } := rfl
@[simp] theorem setMemory_depth (u : Int) (s : State) : (setMemory u s).depth = s.depth := rfl
@[simp] theorem setMemory_travel (u : Int) (s : State) : (setMemory u s).travel = s.travel := rfl
@[simp] theorem setMemory_tick (u : Int) (s : State) : (setMemory u s).tick = s.tick := rfl
@[simp] theorem setMemory_test (u : Int) (s : State) : (setMemory u s).test = s.test := rfl
@[simp] theorem setMemory_trace (u : Int) (s : State) : (setMemory u s).trace = s.trace := rfl
@[simp] theorem setMemory_fwd (u : Int) (s : State) : (setMemory u s).fwd = s.fwd := rfl
@[simp] theorem setMemory_portU (u : Int) (s : State) : (setMemory u s).portU = s.portU := rfl
@[simp] theorem setMemory_portD (u : Int) (s : State) : (setMemory u s).portD = s.portD := rfl
@[simp] theorem setMemory_events (u : Int) (s : State) : (setMemory u s).events = s.events := rfl
@[simp] theorem setMemory_counters (u : Int) (s : State) : (setMemory u s).counters = s.counters := rfl
@[simp] theorem setMemory_pending (u : Int) (s : State) : (setMemory u s).pending = s.pending := rfl
@[simp] theorem setMemory_choice (u : Int) (s : State) : (setMemory u s).choice = s.choice := rfl

@[simp] theorem clearPrior_now (s : State) : (clearPrior s).now = s.now := rfl
@[simp] theorem clearPrior_node (s : State) : (clearPrior s).node = s.node := rfl
@[simp] theorem clearPrior_params (s : State) : (clearPrior s).params = s.params := rfl
@[simp] theorem clearPrior_lines (s : State) : (clearPrior s).lines = s.lines := rfl
@[simp] theorem clearPrior_chain (s : State) : (clearPrior s).chain = s.chain := rfl
@[simp] theorem clearPrior_beams (s : State) : (clearPrior s).beams = s.beams := rfl
@[simp] theorem clearPrior_tilt (s : State) : (clearPrior s).tilt = s.tilt := rfl
@[simp] theorem clearPrior_store (s : State) : (clearPrior s).store = s.store := rfl
@[simp] theorem clearPrior_run (s : State) : (clearPrior s).run = s.run := rfl
@[simp] theorem clearPrior_ctl (s : State) :
    (clearPrior s).ctl = { s.ctl with prior := none } := rfl
@[simp] theorem clearPrior_depth (s : State) : (clearPrior s).depth = s.depth := rfl
@[simp] theorem clearPrior_travel (s : State) : (clearPrior s).travel = s.travel := rfl
@[simp] theorem clearPrior_tick (s : State) : (clearPrior s).tick = s.tick := rfl
@[simp] theorem clearPrior_test (s : State) : (clearPrior s).test = s.test := rfl
@[simp] theorem clearPrior_trace (s : State) : (clearPrior s).trace = s.trace := rfl
@[simp] theorem clearPrior_fwd (s : State) : (clearPrior s).fwd = s.fwd := rfl
@[simp] theorem clearPrior_portU (s : State) : (clearPrior s).portU = s.portU := rfl
@[simp] theorem clearPrior_portD (s : State) : (clearPrior s).portD = s.portD := rfl
@[simp] theorem clearPrior_events (s : State) : (clearPrior s).events = s.events := rfl
@[simp] theorem clearPrior_counters (s : State) : (clearPrior s).counters = s.counters := rfl
@[simp] theorem clearPrior_pending (s : State) : (clearPrior s).pending = s.pending := rfl
@[simp] theorem clearPrior_choice (s : State) : (clearPrior s).choice = s.choice := rfl

@[simp] theorem setOffColumn_now (b : Bool) (s : State) : (setOffColumn b s).now = s.now := rfl
@[simp] theorem setOffColumn_node (b : Bool) (s : State) : (setOffColumn b s).node = s.node := rfl
@[simp] theorem setOffColumn_params (b : Bool) (s : State) : (setOffColumn b s).params = s.params := rfl
@[simp] theorem setOffColumn_lines (b : Bool) (s : State) : (setOffColumn b s).lines = s.lines := rfl
@[simp] theorem setOffColumn_chain (b : Bool) (s : State) : (setOffColumn b s).chain = s.chain := rfl
@[simp] theorem setOffColumn_beams (b : Bool) (s : State) : (setOffColumn b s).beams = s.beams := rfl
@[simp] theorem setOffColumn_tilt (b : Bool) (s : State) : (setOffColumn b s).tilt = s.tilt := rfl
@[simp] theorem setOffColumn_store (b : Bool) (s : State) : (setOffColumn b s).store = s.store := rfl
@[simp] theorem setOffColumn_run (b : Bool) (s : State) : (setOffColumn b s).run = s.run := rfl
@[simp] theorem setOffColumn_ctl (b : Bool) (s : State) :
    (setOffColumn b s).ctl = { s.ctl with offColumn := b } := rfl
@[simp] theorem setOffColumn_depth (b : Bool) (s : State) : (setOffColumn b s).depth = s.depth := rfl
@[simp] theorem setOffColumn_travel (b : Bool) (s : State) : (setOffColumn b s).travel = s.travel := rfl
@[simp] theorem setOffColumn_tick (b : Bool) (s : State) : (setOffColumn b s).tick = s.tick := rfl
@[simp] theorem setOffColumn_test (b : Bool) (s : State) : (setOffColumn b s).test = s.test := rfl
@[simp] theorem setOffColumn_trace (b : Bool) (s : State) : (setOffColumn b s).trace = s.trace := rfl
@[simp] theorem setOffColumn_fwd (b : Bool) (s : State) : (setOffColumn b s).fwd = s.fwd := rfl
@[simp] theorem setOffColumn_portU (b : Bool) (s : State) : (setOffColumn b s).portU = s.portU := rfl
@[simp] theorem setOffColumn_portD (b : Bool) (s : State) : (setOffColumn b s).portD = s.portD := rfl
@[simp] theorem setOffColumn_events (b : Bool) (s : State) : (setOffColumn b s).events = s.events := rfl
@[simp] theorem setOffColumn_counters (b : Bool) (s : State) : (setOffColumn b s).counters = s.counters := rfl
@[simp] theorem setOffColumn_pending (b : Bool) (s : State) : (setOffColumn b s).pending = s.pending := rfl
@[simp] theorem setOffColumn_choice (b : Bool) (s : State) : (setOffColumn b s).choice = s.choice := rfl

@[simp] theorem setStore_now (p : ProfileStore) (s : State) : (setStore p s).now = s.now := rfl
@[simp] theorem setStore_node (p : ProfileStore) (s : State) : (setStore p s).node = s.node := rfl
@[simp] theorem setStore_params (p : ProfileStore) (s : State) : (setStore p s).params = s.params := rfl
@[simp] theorem setStore_lines (p : ProfileStore) (s : State) : (setStore p s).lines = s.lines := rfl
@[simp] theorem setStore_chain (p : ProfileStore) (s : State) : (setStore p s).chain = s.chain := rfl
@[simp] theorem setStore_beams (p : ProfileStore) (s : State) : (setStore p s).beams = s.beams := rfl
@[simp] theorem setStore_tilt (p : ProfileStore) (s : State) : (setStore p s).tilt = s.tilt := rfl
@[simp] theorem setStore_store (p : ProfileStore) (s : State) :
    (setStore p s).store = p := rfl
@[simp] theorem setStore_run (p : ProfileStore) (s : State) : (setStore p s).run = s.run := rfl
@[simp] theorem setStore_ctl (p : ProfileStore) (s : State) : (setStore p s).ctl = s.ctl := rfl
@[simp] theorem setStore_depth (p : ProfileStore) (s : State) : (setStore p s).depth = s.depth := rfl
@[simp] theorem setStore_travel (p : ProfileStore) (s : State) : (setStore p s).travel = s.travel := rfl
@[simp] theorem setStore_tick (p : ProfileStore) (s : State) : (setStore p s).tick = s.tick := rfl
@[simp] theorem setStore_test (p : ProfileStore) (s : State) : (setStore p s).test = s.test := rfl
@[simp] theorem setStore_trace (p : ProfileStore) (s : State) : (setStore p s).trace = s.trace := rfl
@[simp] theorem setStore_fwd (p : ProfileStore) (s : State) : (setStore p s).fwd = s.fwd := rfl
@[simp] theorem setStore_portU (p : ProfileStore) (s : State) : (setStore p s).portU = s.portU := rfl
@[simp] theorem setStore_portD (p : ProfileStore) (s : State) : (setStore p s).portD = s.portD := rfl
@[simp] theorem setStore_events (p : ProfileStore) (s : State) : (setStore p s).events = s.events := rfl
@[simp] theorem setStore_counters (p : ProfileStore) (s : State) : (setStore p s).counters = s.counters := rfl
@[simp] theorem setStore_pending (p : ProfileStore) (s : State) : (setStore p s).pending = s.pending := rfl
@[simp] theorem setStore_choice (p : ProfileStore) (s : State) : (setStore p s).choice = s.choice := rfl

@[simp] theorem setLine_now (l : Line) (f : LineFilter) (s : State) : (setLine l f s).now = s.now := rfl
@[simp] theorem setLine_node (l : Line) (f : LineFilter) (s : State) : (setLine l f s).node = s.node := rfl
@[simp] theorem setLine_params (l : Line) (f : LineFilter) (s : State) : (setLine l f s).params = s.params := rfl
@[simp] theorem setLine_chain (l : Line) (f : LineFilter) (s : State) : (setLine l f s).chain = s.chain := rfl
@[simp] theorem setLine_beams (l : Line) (f : LineFilter) (s : State) : (setLine l f s).beams = s.beams := rfl
@[simp] theorem setLine_tilt (l : Line) (f : LineFilter) (s : State) : (setLine l f s).tilt = s.tilt := rfl
@[simp] theorem setLine_store (l : Line) (f : LineFilter) (s : State) : (setLine l f s).store = s.store := rfl
@[simp] theorem setLine_run (l : Line) (f : LineFilter) (s : State) : (setLine l f s).run = s.run := rfl
@[simp] theorem setLine_ctl (l : Line) (f : LineFilter) (s : State) : (setLine l f s).ctl = s.ctl := rfl
@[simp] theorem setLine_depth (l : Line) (f : LineFilter) (s : State) : (setLine l f s).depth = s.depth := rfl
@[simp] theorem setLine_travel (l : Line) (f : LineFilter) (s : State) : (setLine l f s).travel = s.travel := rfl
@[simp] theorem setLine_tick (l : Line) (f : LineFilter) (s : State) : (setLine l f s).tick = s.tick := rfl
@[simp] theorem setLine_test (l : Line) (f : LineFilter) (s : State) : (setLine l f s).test = s.test := rfl
@[simp] theorem setLine_trace (l : Line) (f : LineFilter) (s : State) : (setLine l f s).trace = s.trace := rfl
@[simp] theorem setLine_fwd (l : Line) (f : LineFilter) (s : State) : (setLine l f s).fwd = s.fwd := rfl
@[simp] theorem setLine_portU (l : Line) (f : LineFilter) (s : State) : (setLine l f s).portU = s.portU := rfl
@[simp] theorem setLine_portD (l : Line) (f : LineFilter) (s : State) : (setLine l f s).portD = s.portD := rfl
@[simp] theorem setLine_events (l : Line) (f : LineFilter) (s : State) : (setLine l f s).events = s.events := rfl
@[simp] theorem setLine_counters (l : Line) (f : LineFilter) (s : State) : (setLine l f s).counters = s.counters := rfl
@[simp] theorem setLine_pending (l : Line) (f : LineFilter) (s : State) : (setLine l f s).pending = s.pending := rfl
@[simp] theorem setLine_choice (l : Line) (f : LineFilter) (s : State) : (setLine l f s).choice = s.choice := rfl

@[simp] theorem markTick_now (s : State) : (markTick s).now = s.now := rfl
@[simp] theorem markTick_node (s : State) : (markTick s).node = s.node := rfl
@[simp] theorem markTick_params (s : State) : (markTick s).params = s.params := rfl
@[simp] theorem markTick_lines (s : State) : (markTick s).lines = s.lines := rfl
@[simp] theorem markTick_chain (s : State) : (markTick s).chain = s.chain := rfl
@[simp] theorem markTick_beams (s : State) : (markTick s).beams = s.beams := rfl
@[simp] theorem markTick_tilt (s : State) : (markTick s).tilt = s.tilt := rfl
@[simp] theorem markTick_store (s : State) : (markTick s).store = s.store := rfl
@[simp] theorem markTick_run (s : State) : (markTick s).run = s.run := rfl
@[simp] theorem markTick_ctl (s : State) : (markTick s).ctl = s.ctl := rfl
@[simp] theorem markTick_depth (s : State) : (markTick s).depth = s.depth := rfl
@[simp] theorem markTick_travel (s : State) : (markTick s).travel = s.travel := rfl
@[simp] theorem markTick_tick (s : State) :
    (markTick s).tick = { s.tick with lastTick := s.now.ms, nextTick := later s.now.ms s.params.tick } := rfl
@[simp] theorem markTick_test (s : State) : (markTick s).test = s.test := rfl
@[simp] theorem markTick_trace (s : State) : (markTick s).trace = s.trace := rfl
@[simp] theorem markTick_fwd (s : State) : (markTick s).fwd = s.fwd := rfl
@[simp] theorem markTick_portU (s : State) : (markTick s).portU = s.portU := rfl
@[simp] theorem markTick_portD (s : State) : (markTick s).portD = s.portD := rfl
@[simp] theorem markTick_events (s : State) : (markTick s).events = s.events := rfl
@[simp] theorem markTick_counters (s : State) : (markTick s).counters = s.counters := rfl
@[simp] theorem markTick_pending (s : State) : (markTick s).pending = s.pending := rfl
@[simp] theorem markTick_choice (s : State) : (markTick s).choice = s.choice := rfl

@[simp] theorem raiseMark_now (s : State) : (raiseMark s).now = s.now := rfl
@[simp] theorem raiseMark_node (s : State) : (raiseMark s).node = s.node := rfl
@[simp] theorem raiseMark_params (s : State) : (raiseMark s).params = s.params := rfl
@[simp] theorem raiseMark_lines (s : State) : (raiseMark s).lines = s.lines := rfl
@[simp] theorem raiseMark_chain (s : State) :
    (raiseMark s).chain = { s.chain with h := max s.chain.h s.chain.s } := rfl
@[simp] theorem raiseMark_beams (s : State) : (raiseMark s).beams = s.beams := rfl
@[simp] theorem raiseMark_tilt (s : State) : (raiseMark s).tilt = s.tilt := rfl
@[simp] theorem raiseMark_store (s : State) : (raiseMark s).store = s.store := rfl
@[simp] theorem raiseMark_run (s : State) : (raiseMark s).run = s.run := rfl
@[simp] theorem raiseMark_ctl (s : State) : (raiseMark s).ctl = s.ctl := rfl
@[simp] theorem raiseMark_depth (s : State) : (raiseMark s).depth = s.depth := rfl
@[simp] theorem raiseMark_travel (s : State) : (raiseMark s).travel = s.travel := rfl
@[simp] theorem raiseMark_tick (s : State) : (raiseMark s).tick = s.tick := rfl
@[simp] theorem raiseMark_test (s : State) : (raiseMark s).test = s.test := rfl
@[simp] theorem raiseMark_trace (s : State) : (raiseMark s).trace = s.trace := rfl
@[simp] theorem raiseMark_fwd (s : State) : (raiseMark s).fwd = s.fwd := rfl
@[simp] theorem raiseMark_portU (s : State) : (raiseMark s).portU = s.portU := rfl
@[simp] theorem raiseMark_portD (s : State) : (raiseMark s).portD = s.portD := rfl
@[simp] theorem raiseMark_events (s : State) : (raiseMark s).events = s.events := rfl
@[simp] theorem raiseMark_counters (s : State) : (raiseMark s).counters = s.counters := rfl
@[simp] theorem raiseMark_pending (s : State) : (raiseMark s).pending = s.pending := rfl
@[simp] theorem raiseMark_choice (s : State) : (raiseMark s).choice = s.choice := rfl

@[simp] theorem endRun_now (s : State) : (endRun s).now = s.now := rfl
@[simp] theorem endRun_node (s : State) : (endRun s).node = s.node := rfl
@[simp] theorem endRun_params (s : State) : (endRun s).params = s.params := rfl
@[simp] theorem endRun_lines (s : State) : (endRun s).lines = s.lines := rfl
@[simp] theorem endRun_chain (s : State) : (endRun s).chain = s.chain := rfl
@[simp] theorem endRun_beams (s : State) : (endRun s).beams = s.beams := rfl
@[simp] theorem endRun_tilt (s : State) : (endRun s).tilt = s.tilt := rfl
@[simp] theorem endRun_store (s : State) : (endRun s).store = s.store := rfl
@[simp] theorem endRun_run (s : State) :
    (endRun s).run = { s.run with isOpen := false, benched := false, dSet := 0 } := rfl
@[simp] theorem endRun_ctl (s : State) : (endRun s).ctl = s.ctl := rfl
@[simp] theorem endRun_depth (s : State) : (endRun s).depth = s.depth := rfl
@[simp] theorem endRun_travel (s : State) : (endRun s).travel = s.travel := rfl
@[simp] theorem endRun_tick (s : State) : (endRun s).tick = s.tick := rfl
@[simp] theorem endRun_test (s : State) : (endRun s).test = s.test := rfl
@[simp] theorem endRun_trace (s : State) : (endRun s).trace = s.trace := rfl
@[simp] theorem endRun_fwd (s : State) : (endRun s).fwd = s.fwd := rfl
@[simp] theorem endRun_portU (s : State) : (endRun s).portU = s.portU := rfl
@[simp] theorem endRun_portD (s : State) : (endRun s).portD = s.portD := rfl
@[simp] theorem endRun_events (s : State) : (endRun s).events = s.events := rfl
@[simp] theorem endRun_counters (s : State) : (endRun s).counters = s.counters := rfl
@[simp] theorem endRun_pending (s : State) : (endRun s).pending = s.pending := rfl
@[simp] theorem endRun_choice (s : State) : (endRun s).choice = s.choice := rfl

@[simp] theorem setDepthSetting_now (d : Int) (s : State) : (setDepthSetting d s).now = s.now := rfl
@[simp] theorem setDepthSetting_node (d : Int) (s : State) : (setDepthSetting d s).node = s.node := rfl
@[simp] theorem setDepthSetting_params (d : Int) (s : State) : (setDepthSetting d s).params = s.params := rfl
@[simp] theorem setDepthSetting_lines (d : Int) (s : State) : (setDepthSetting d s).lines = s.lines := rfl
@[simp] theorem setDepthSetting_chain (d : Int) (s : State) : (setDepthSetting d s).chain = s.chain := rfl
@[simp] theorem setDepthSetting_beams (d : Int) (s : State) : (setDepthSetting d s).beams = s.beams := rfl
@[simp] theorem setDepthSetting_tilt (d : Int) (s : State) : (setDepthSetting d s).tilt = s.tilt := rfl
@[simp] theorem setDepthSetting_store (d : Int) (s : State) : (setDepthSetting d s).store = s.store := rfl
@[simp] theorem setDepthSetting_run (d : Int) (s : State) :
    (setDepthSetting d s).run = { s.run with dSet := d, benched := true } := rfl
@[simp] theorem setDepthSetting_ctl (d : Int) (s : State) : (setDepthSetting d s).ctl = s.ctl := rfl
@[simp] theorem setDepthSetting_depth (d : Int) (s : State) : (setDepthSetting d s).depth = s.depth := rfl
@[simp] theorem setDepthSetting_travel (d : Int) (s : State) : (setDepthSetting d s).travel = s.travel := rfl
@[simp] theorem setDepthSetting_tick (d : Int) (s : State) : (setDepthSetting d s).tick = s.tick := rfl
@[simp] theorem setDepthSetting_test (d : Int) (s : State) : (setDepthSetting d s).test = s.test := rfl
@[simp] theorem setDepthSetting_trace (d : Int) (s : State) : (setDepthSetting d s).trace = s.trace := rfl
@[simp] theorem setDepthSetting_fwd (d : Int) (s : State) : (setDepthSetting d s).fwd = s.fwd := rfl
@[simp] theorem setDepthSetting_portU (d : Int) (s : State) : (setDepthSetting d s).portU = s.portU := rfl
@[simp] theorem setDepthSetting_portD (d : Int) (s : State) : (setDepthSetting d s).portD = s.portD := rfl
@[simp] theorem setDepthSetting_events (d : Int) (s : State) : (setDepthSetting d s).events = s.events := rfl
@[simp] theorem setDepthSetting_counters (d : Int) (s : State) : (setDepthSetting d s).counters = s.counters := rfl
@[simp] theorem setDepthSetting_pending (d : Int) (s : State) : (setDepthSetting d s).pending = s.pending := rfl
@[simp] theorem setDepthSetting_choice (d : Int) (s : State) : (setDepthSetting d s).choice = s.choice := rfl

@[simp] theorem setGate_now (b : Bool) (s : State) : (setGate b s).now = s.now := rfl
@[simp] theorem setGate_node (b : Bool) (s : State) : (setGate b s).node = s.node := rfl
@[simp] theorem setGate_params (b : Bool) (s : State) : (setGate b s).params = s.params := rfl
@[simp] theorem setGate_lines (b : Bool) (s : State) : (setGate b s).lines = s.lines := rfl
@[simp] theorem setGate_chain (b : Bool) (s : State) : (setGate b s).chain = s.chain := rfl
@[simp] theorem setGate_beams (b : Bool) (s : State) : (setGate b s).beams = s.beams := rfl
@[simp] theorem setGate_tilt (b : Bool) (s : State) : (setGate b s).tilt = s.tilt := rfl
@[simp] theorem setGate_store (b : Bool) (s : State) : (setGate b s).store = s.store := rfl
@[simp] theorem setGate_run (b : Bool) (s : State) : (setGate b s).run = s.run := rfl
@[simp] theorem setGate_ctl (b : Bool) (s : State) : (setGate b s).ctl = s.ctl := rfl
@[simp] theorem setGate_depth (b : Bool) (s : State) : (setGate b s).depth = s.depth := rfl
@[simp] theorem setGate_travel (b : Bool) (s : State) : (setGate b s).travel = s.travel := rfl
@[simp] theorem setGate_tick (b : Bool) (s : State) : (setGate b s).tick = s.tick := rfl
@[simp] theorem setGate_test (b : Bool) (s : State) : (setGate b s).test = s.test := rfl
@[simp] theorem setGate_trace (b : Bool) (s : State) :
    (setGate b s).trace = { s.trace with gateOpen := b } := rfl
@[simp] theorem setGate_fwd (b : Bool) (s : State) : (setGate b s).fwd = s.fwd := rfl
@[simp] theorem setGate_portU (b : Bool) (s : State) : (setGate b s).portU = s.portU := rfl
@[simp] theorem setGate_portD (b : Bool) (s : State) : (setGate b s).portD = s.portD := rfl
@[simp] theorem setGate_events (b : Bool) (s : State) : (setGate b s).events = s.events := rfl
@[simp] theorem setGate_counters (b : Bool) (s : State) : (setGate b s).counters = s.counters := rfl
@[simp] theorem setGate_pending (b : Bool) (s : State) : (setGate b s).pending = s.pending := rfl
@[simp] theorem setGate_choice (b : Bool) (s : State) : (setGate b s).choice = s.choice := rfl

@[simp] theorem setState_ctl_state (new : CtlState) (s : State) : (setState new s).ctl.state = new := rfl
@[simp] theorem setState_ctl_prior (new : CtlState) (s : State) : (setState new s).ctl.prior = s.ctl.prior := rfl
@[simp] theorem setState_ctl_memory (new : CtlState) (s : State) : (setState new s).ctl.memory = s.ctl.memory := rfl
@[simp] theorem setState_ctl_offColumn (new : CtlState) (s : State) :
    (setState new s).ctl.offColumn = if new = .auto ∨ s.ctl.state = .auto then false else s.ctl.offColumn := rfl
@[simp] theorem placeDepth_depth_waiting (f : DepthFrame) (s : State) :
    (placeDepth f s).depth.waiting = s.depth.waiting := rfl
@[simp] theorem placeDepth_depth_fresh (f : DepthFrame) (s : State) :
    (placeDepth f s).depth.fresh = s.depth.fresh := rfl
@[simp] theorem placeDepth_depth_held (f : DepthFrame) (s : State) :
    (placeDepth f s).depth.held = s.depth.held := rfl
@[simp] theorem placeDepth_depth_emitted (f : DepthFrame) (s : State) :
    (placeDepth f s).depth.emitted = true := rfl
@[simp] theorem placeDepth_depth_last (f : DepthFrame) (s : State) :
    (placeDepth f s).depth.last = some f := rfl
@[simp] theorem placeDepth_depth_seq (f : DepthFrame) (s : State) :
    (placeDepth f s).depth.seq = s.depth.seq + 1 := rfl
@[simp] theorem placeDepth_depth_lastRaise (f : DepthFrame) (s : State) :
    (placeDepth f s).depth.lastRaise = if f.dir = some .raise then some s.now.ms else s.depth.lastRaise := rfl
@[simp] theorem placeDepth_depth_lastLower (f : DepthFrame) (s : State) :
    (placeDepth f s).depth.lastLower = if f.dir = some .lower then some s.now.ms else s.depth.lastLower := rfl

@[simp] theorem advanceRead_frame (n : Nat) (t : Trace) :
    (advanceRead n t).tail = t.tail ∧ (advanceRead n t).mark = t.mark ∧ (advanceRead n t).seqNo = t.seqNo ∧
    (advanceRead n t).gateOpen = t.gateOpen ∧ (advanceRead n t).read = t.read + BitVec.ofNat 32 n := by
  unfold advanceRead
  split <;> simp

@[simp] theorem moveChain_frame (w : Bool) (s : State) :
    (moveChain w s).h = s.chain.h ∧ (moveChain w s).dH = s.chain.dH := ⟨rfl, rfl⟩

@[simp] theorem releaseTo_frame (m : Option (BitVec 32)) (t : Trace) :
    (releaseTo m t).tail = t.tail ∧ (releaseTo m t).mark = m ∧ (releaseTo m t).seqNo = t.seqNo ∧
    (releaseTo m t).gateOpen = t.gateOpen ∧ (releaseTo m t).read = t.read := ⟨rfl, rfl, rfl, rfl, rfl⟩

/-! ## The beam table's entries -/

@[simp] theorem getBeam_putBeam (t : Beams) (c d : BeamCode) (e : Beam) :
    getBeam (putBeam t c e) d = if d = c then e else getBeam t d := by
  cases c <;> cases d <;> rfl

@[simp] theorem beam_setBeam (c d : BeamCode) (e : Beam) (s : State) :
    beam (setBeam c e s) d = if d = c then e else beam s d := getBeam_putBeam _ _ _ _

@[simp] theorem beam_mapBeams (f : Beam → Beam) (d : BeamCode) (s : State) :
    beam (mapBeams f s) d = f (beam s d) := by
  cases d <;> rfl

/-- The entries of a state are those of any state with the same table. -/
theorem beam_congr {s t : State} (h : t.beams = s.beams) : beam t = beam s := by
  funext c
  simp [beam, h]

/-- The reference of a state is that of any state with the same table. -/
theorem reference_congr {s t : State} (h : t.beams = s.beams) : reference t = reference s := by
  simp [reference, beam_congr h]

end Sys2Proof.Machine
end

