-- ==== Sys2Proof/Laws/Frames.lean ====
section
/-! SUPPORT. The frame of each shared operation: what it leaves unchanged, said once for each. -/

namespace Sys2Proof.Machine

@[simp] theorem dropNotice_frame (s : State) :
    (dropNotice s).now = s.now ∧ (dropNotice s).node = s.node ∧ (dropNotice s).params = s.params ∧
    (dropNotice s).lines = s.lines ∧ (dropNotice s).chain = s.chain ∧ (dropNotice s).beams = s.beams ∧
    (dropNotice s).tilt = s.tilt ∧ (dropNotice s).store = s.store ∧ (dropNotice s).run = s.run ∧
    (dropNotice s).ctl = s.ctl ∧ (dropNotice s).depth = s.depth ∧ (dropNotice s).travel = s.travel ∧
    (dropNotice s).tick = s.tick ∧ (dropNotice s).test = s.test ∧ (dropNotice s).trace = s.trace ∧
    (dropNotice s).fwd = s.fwd ∧ (dropNotice s).portU = s.portU ∧ (dropNotice s).portD = s.portD ∧
    (dropNotice s).events.mask = s.events.mask ∧ (dropNotice s).pending = s.pending ∧
    (dropNotice s).choice = s.choice := by
  unfold dropNotice
  try dsimp only
  (repeat' split) <;> simp

@[simp] theorem latch_frame (e : Event) (b : Option BeamCode) (c : Nat) (s : State) :
    (latch e b c s).now = s.now ∧ (latch e b c s).node = s.node ∧ (latch e b c s).params = s.params ∧
    (latch e b c s).lines = s.lines ∧ (latch e b c s).chain = s.chain ∧ (latch e b c s).beams = s.beams ∧
    (latch e b c s).tilt = s.tilt ∧ (latch e b c s).store = s.store ∧ (latch e b c s).run = s.run ∧
    (latch e b c s).ctl = s.ctl ∧ (latch e b c s).depth = s.depth ∧ (latch e b c s).travel = s.travel ∧
    (latch e b c s).tick = s.tick ∧ (latch e b c s).test = s.test ∧ (latch e b c s).trace = s.trace ∧
    (latch e b c s).fwd = s.fwd ∧ (latch e b c s).portU.sent = s.portU.sent ∧
    (latch e b c s).portD = s.portD ∧ (latch e b c s).events.mask = s.events.mask ∧
    (latch e b c s).pending = s.pending ∧ (latch e b c s).choice = s.choice := by
  unfold latch
  try dsimp only
  (repeat' split) <;> simp

@[simp] theorem latchHere_frame (e : Event) (b : Option BeamCode) (s : State) :
    (latchHere e b s).now = s.now ∧ (latchHere e b s).node = s.node ∧ (latchHere e b s).params = s.params ∧
    (latchHere e b s).lines = s.lines ∧ (latchHere e b s).chain = s.chain ∧
    (latchHere e b s).beams = s.beams ∧ (latchHere e b s).tilt = s.tilt ∧ (latchHere e b s).store = s.store ∧
    (latchHere e b s).run = s.run ∧ (latchHere e b s).ctl = s.ctl ∧ (latchHere e b s).depth = s.depth ∧
    (latchHere e b s).travel = s.travel ∧ (latchHere e b s).tick = s.tick ∧ (latchHere e b s).test = s.test ∧
    (latchHere e b s).trace = s.trace ∧ (latchHere e b s).fwd = s.fwd ∧
    (latchHere e b s).portU.sent = s.portU.sent ∧ (latchHere e b s).portD = s.portD ∧
    (latchHere e b s).events.mask = s.events.mask ∧ (latchHere e b s).pending = s.pending ∧
    (latchHere e b s).choice = s.choice := by
  simp [latchHere]

@[simp] theorem countReject_frame (k : Counter) (b : BeamCode) (s : State) :
    (countReject k b s).now = s.now ∧ (countReject k b s).node = s.node ∧
    (countReject k b s).params = s.params ∧ (countReject k b s).lines = s.lines ∧
    (countReject k b s).chain = s.chain ∧ (countReject k b s).beams = s.beams ∧
    (countReject k b s).tilt = s.tilt ∧ (countReject k b s).store = s.store ∧
    (countReject k b s).run = s.run ∧ (countReject k b s).ctl = s.ctl ∧ (countReject k b s).depth = s.depth ∧
    (countReject k b s).travel = s.travel ∧ (countReject k b s).tick = s.tick ∧
    (countReject k b s).test = s.test ∧ (countReject k b s).trace = s.trace ∧
    (countReject k b s).fwd = s.fwd ∧ (countReject k b s).portU.sent = s.portU.sent ∧
    (countReject k b s).portD = s.portD ∧ (countReject k b s).events.mask = s.events.mask ∧
    (countReject k b s).pending = s.pending ∧ (countReject k b s).choice = s.choice := by
  unfold countReject
  try dsimp only
  (repeat' split) <;> simp

@[simp] theorem dropMalformed_frame (s : State) :
    (dropMalformed s).now = s.now ∧ (dropMalformed s).node = s.node ∧ (dropMalformed s).params = s.params ∧
    (dropMalformed s).lines = s.lines ∧ (dropMalformed s).chain = s.chain ∧
    (dropMalformed s).beams = s.beams ∧ (dropMalformed s).tilt = s.tilt ∧ (dropMalformed s).store = s.store ∧
    (dropMalformed s).run = s.run ∧ (dropMalformed s).ctl = s.ctl ∧ (dropMalformed s).depth = s.depth ∧
    (dropMalformed s).travel = s.travel ∧ (dropMalformed s).tick = s.tick ∧ (dropMalformed s).test = s.test ∧
    (dropMalformed s).trace = s.trace ∧ (dropMalformed s).fwd = s.fwd ∧ (dropMalformed s).portU = s.portU ∧
    (dropMalformed s).portD = s.portD ∧ (dropMalformed s).events = s.events ∧
    (dropMalformed s).pending = s.pending ∧ (dropMalformed s).choice = s.choice := by
  simp [dropMalformed]

@[simp] theorem forwardToD_frame (f : CanFrame) (s : State) :
    (forwardToD f s).now = s.now ∧ (forwardToD f s).node = s.node ∧ (forwardToD f s).params = s.params ∧
    (forwardToD f s).lines = s.lines ∧ (forwardToD f s).chain = s.chain ∧ (forwardToD f s).beams = s.beams ∧
    (forwardToD f s).tilt = s.tilt ∧ (forwardToD f s).store = s.store ∧ (forwardToD f s).run = s.run ∧
    (forwardToD f s).ctl = s.ctl ∧ (forwardToD f s).depth = s.depth ∧ (forwardToD f s).travel = s.travel ∧
    (forwardToD f s).tick = s.tick ∧ (forwardToD f s).test = s.test ∧ (forwardToD f s).trace = s.trace ∧
    (forwardToD f s).fwd = s.fwd ∧ (forwardToD f s).portU.sent = s.portU.sent ∧
    (forwardToD f s).portD.depthSlot = s.portD.depthSlot ∧
    (forwardToD f s).portD.travelSlot = s.portD.travelSlot ∧ (forwardToD f s).portD.sent = s.portD.sent ∧
    (forwardToD f s).events.mask = s.events.mask ∧ (forwardToD f s).pending = s.pending ∧
    (forwardToD f s).choice = s.choice := by
  unfold forwardToD
  try dsimp only
  (repeat' split) <;> simp

@[simp] theorem forwardToU_frame (f : CanFrame) (s : State) :
    (forwardToU f s).now = s.now ∧ (forwardToU f s).node = s.node ∧ (forwardToU f s).params = s.params ∧
    (forwardToU f s).lines = s.lines ∧ (forwardToU f s).chain = s.chain ∧ (forwardToU f s).beams = s.beams ∧
    (forwardToU f s).tilt = s.tilt ∧ (forwardToU f s).store = s.store ∧ (forwardToU f s).run = s.run ∧
    (forwardToU f s).ctl = s.ctl ∧ (forwardToU f s).depth = s.depth ∧ (forwardToU f s).travel = s.travel ∧
    (forwardToU f s).tick = s.tick ∧ (forwardToU f s).test = s.test ∧ (forwardToU f s).trace = s.trace ∧
    (forwardToU f s).fwd = s.fwd ∧ (forwardToU f s).portU.sent = s.portU.sent ∧
    (forwardToU f s).portD = s.portD ∧ (forwardToU f s).events.mask = s.events.mask ∧
    (forwardToU f s).pending = s.pending ∧ (forwardToU f s).choice = s.choice := by
  unfold forwardToU
  try dsimp only
  (repeat' split) <;> simp

@[simp] theorem forwardFrom_frame (p : Port) (f : CanFrame) (s : State) :
    (forwardFrom p f s).now = s.now ∧ (forwardFrom p f s).node = s.node ∧
    (forwardFrom p f s).params = s.params ∧ (forwardFrom p f s).lines = s.lines ∧
    (forwardFrom p f s).chain = s.chain ∧ (forwardFrom p f s).beams = s.beams ∧
    (forwardFrom p f s).tilt = s.tilt ∧ (forwardFrom p f s).store = s.store ∧
    (forwardFrom p f s).run = s.run ∧ (forwardFrom p f s).ctl = s.ctl ∧ (forwardFrom p f s).depth = s.depth ∧
    (forwardFrom p f s).travel = s.travel ∧ (forwardFrom p f s).tick = s.tick ∧
    (forwardFrom p f s).test = s.test ∧ (forwardFrom p f s).trace = s.trace ∧
    (forwardFrom p f s).fwd = s.fwd ∧ (forwardFrom p f s).portU.sent = s.portU.sent ∧
    (forwardFrom p f s).portD.depthSlot = s.portD.depthSlot ∧
    (forwardFrom p f s).portD.travelSlot = s.portD.travelSlot ∧
    (forwardFrom p f s).portD.sent = s.portD.sent ∧ (forwardFrom p f s).events.mask = s.events.mask ∧
    (forwardFrom p f s).pending = s.pending ∧ (forwardFrom p f s).choice = s.choice := by
  unfold forwardFrom
  try dsimp only
  (repeat' split) <;> simp

@[simp] theorem forwardByTable_frame (p : Port) (i : Ident) (f : CanFrame) (s : State) :
    (forwardByTable p i f s).now = s.now ∧ (forwardByTable p i f s).node = s.node ∧
    (forwardByTable p i f s).params = s.params ∧ (forwardByTable p i f s).lines = s.lines ∧
    (forwardByTable p i f s).chain = s.chain ∧ (forwardByTable p i f s).beams = s.beams ∧
    (forwardByTable p i f s).tilt = s.tilt ∧ (forwardByTable p i f s).store = s.store ∧
    (forwardByTable p i f s).run = s.run ∧ (forwardByTable p i f s).ctl = s.ctl ∧
    (forwardByTable p i f s).depth = s.depth ∧ (forwardByTable p i f s).travel = s.travel ∧
    (forwardByTable p i f s).tick = s.tick ∧ (forwardByTable p i f s).test = s.test ∧
    (forwardByTable p i f s).trace = s.trace ∧ (forwardByTable p i f s).fwd = s.fwd ∧
    (forwardByTable p i f s).portU.sent = s.portU.sent ∧
    (forwardByTable p i f s).portD.depthSlot = s.portD.depthSlot ∧
    (forwardByTable p i f s).portD.travelSlot = s.portD.travelSlot ∧
    (forwardByTable p i f s).portD.sent = s.portD.sent ∧
    (forwardByTable p i f s).events.mask = s.events.mask ∧ (forwardByTable p i f s).pending = s.pending ∧
    (forwardByTable p i f s).choice = s.choice := by
  unfold forwardByTable
  try dsimp only
  (repeat' split) <;> simp

@[simp] theorem forwardTaken_frame (p : Port) (k : Byte) (f : Arrival) (s : State) :
    (forwardTaken p k f s).now = s.now ∧ (forwardTaken p k f s).node = s.node ∧
    (forwardTaken p k f s).params = s.params ∧ (forwardTaken p k f s).lines = s.lines ∧
    (forwardTaken p k f s).chain = s.chain ∧ (forwardTaken p k f s).beams = s.beams ∧
    (forwardTaken p k f s).tilt = s.tilt ∧ (forwardTaken p k f s).store = s.store ∧
    (forwardTaken p k f s).run = s.run ∧ (forwardTaken p k f s).ctl = s.ctl ∧
    (forwardTaken p k f s).depth = s.depth ∧ (forwardTaken p k f s).travel = s.travel ∧
    (forwardTaken p k f s).tick = s.tick ∧ (forwardTaken p k f s).test = s.test ∧
    (forwardTaken p k f s).trace = s.trace ∧ (forwardTaken p k f s).fwd = s.fwd ∧
    (forwardTaken p k f s).portU.sent = s.portU.sent ∧
    (forwardTaken p k f s).portD.depthSlot = s.portD.depthSlot ∧
    (forwardTaken p k f s).portD.travelSlot = s.portD.travelSlot ∧
    (forwardTaken p k f s).portD.sent = s.portD.sent ∧ (forwardTaken p k f s).events.mask = s.events.mask ∧
    (forwardTaken p k f s).pending = s.pending ∧ (forwardTaken p k f s).choice = s.choice := by
  simp [forwardTaken]

@[simp] theorem forwardRequest_frame (d : BitVec 6) (k : Byte) (r : Request) (s : State) :
    (forwardRequest d k r s).now = s.now ∧ (forwardRequest d k r s).node = s.node ∧
    (forwardRequest d k r s).params = s.params ∧ (forwardRequest d k r s).lines = s.lines ∧
    (forwardRequest d k r s).chain = s.chain ∧ (forwardRequest d k r s).beams = s.beams ∧
    (forwardRequest d k r s).tilt = s.tilt ∧ (forwardRequest d k r s).store = s.store ∧
    (forwardRequest d k r s).run = s.run ∧ (forwardRequest d k r s).ctl = s.ctl ∧
    (forwardRequest d k r s).depth = s.depth ∧ (forwardRequest d k r s).travel = s.travel ∧
    (forwardRequest d k r s).tick = s.tick ∧ (forwardRequest d k r s).test = s.test ∧
    (forwardRequest d k r s).trace = s.trace ∧ (forwardRequest d k r s).fwd = s.fwd ∧
    (forwardRequest d k r s).portU.sent = s.portU.sent ∧
    (forwardRequest d k r s).portD.depthSlot = s.portD.depthSlot ∧
    (forwardRequest d k r s).portD.travelSlot = s.portD.travelSlot ∧
    (forwardRequest d k r s).portD.sent = s.portD.sent ∧
    (forwardRequest d k r s).events.mask = s.events.mask ∧ (forwardRequest d k r s).pending = s.pending ∧
    (forwardRequest d k r s).choice = s.choice := by
  simp [forwardRequest]

@[simp] theorem noteTarget_frame (c : Nat) (s : State) :
    (noteTarget c s).now = s.now ∧ (noteTarget c s).node = s.node ∧ (noteTarget c s).params = s.params ∧
    (noteTarget c s).lines = s.lines ∧ (noteTarget c s).chain = s.chain ∧ (noteTarget c s).beams = s.beams ∧
    (noteTarget c s).tilt = s.tilt ∧ (noteTarget c s).store = s.store ∧ (noteTarget c s).run = s.run ∧
    (noteTarget c s).ctl = s.ctl ∧ (noteTarget c s).depth = s.depth ∧ (noteTarget c s).travel = s.travel ∧
    (noteTarget c s).tick = s.tick ∧ (noteTarget c s).test = s.test ∧ (noteTarget c s).trace = s.trace ∧
    (noteTarget c s).fwd = s.fwd ∧ (noteTarget c s).portU.sent = s.portU.sent ∧
    (noteTarget c s).portD = s.portD ∧ (noteTarget c s).events.mask = s.events.mask ∧
    (noteTarget c s).pending = s.pending ∧ (noteTarget c s).choice = s.choice := by
  unfold noteTarget
  try dsimp only
  (repeat' split) <;> simp

@[simp] theorem swapBanks_frame (s : State) :
    (swapBanks s).now = s.now ∧ (swapBanks s).node = s.node ∧ (swapBanks s).params = s.params ∧
    (swapBanks s).lines = s.lines ∧ (swapBanks s).chain = s.chain ∧ (swapBanks s).beams = s.beams ∧
    (swapBanks s).tilt = s.tilt ∧ (swapBanks s).store.session = s.store.session ∧
    (swapBanks s).store.shared = s.store.shared ∧ (swapBanks s).store.tiltTable = s.store.tiltTable ∧
    (swapBanks s).store.raiseMap = s.store.raiseMap ∧ (swapBanks s).store.lowerMap = s.store.lowerMap ∧
    (swapBanks s).run = s.run ∧ (swapBanks s).ctl = s.ctl ∧ (swapBanks s).depth = s.depth ∧
    (swapBanks s).travel = s.travel ∧ (swapBanks s).tick = s.tick ∧ (swapBanks s).test = s.test ∧
    (swapBanks s).trace = s.trace ∧ (swapBanks s).fwd = s.fwd ∧ (swapBanks s).portU.sent = s.portU.sent ∧
    (swapBanks s).portD = s.portD ∧ (swapBanks s).events.mask = s.events.mask ∧
    (swapBanks s).pending = s.pending ∧ (swapBanks s).choice = s.choice := by
  simp [swapBanks]

@[simp] theorem finishTakeover_frame (s : State) :
    (finishTakeover s).now = s.now ∧ (finishTakeover s).node = s.node ∧
    (finishTakeover s).params = s.params ∧ (finishTakeover s).lines = s.lines ∧
    (finishTakeover s).chain = s.chain ∧ (finishTakeover s).beams = s.beams ∧
    (finishTakeover s).tilt = s.tilt ∧ (finishTakeover s).store.session = s.store.session ∧
    (finishTakeover s).store.shared = s.store.shared ∧
    (finishTakeover s).store.tiltTable = s.store.tiltTable ∧
    (finishTakeover s).store.raiseMap = s.store.raiseMap ∧
    (finishTakeover s).store.lowerMap = s.store.lowerMap ∧ (finishTakeover s).run = s.run ∧
    (finishTakeover s).ctl = s.ctl ∧ (finishTakeover s).depth = s.depth ∧
    (finishTakeover s).travel = s.travel ∧ (finishTakeover s).tick = s.tick ∧
    (finishTakeover s).test = s.test ∧ (finishTakeover s).trace = s.trace ∧ (finishTakeover s).fwd = s.fwd ∧
    (finishTakeover s).portU.sent = s.portU.sent ∧ (finishTakeover s).portD = s.portD ∧
    (finishTakeover s).events.mask = s.events.mask ∧ (finishTakeover s).pending = s.pending ∧
    (finishTakeover s).choice = s.choice := by
  unfold finishTakeover
  try dsimp only
  (repeat' split) <;> simp

@[simp] theorem emitDepth_frame (s : State) :
    (emitDepth s).now = s.now ∧ (emitDepth s).node = s.node ∧ (emitDepth s).params = s.params ∧
    (emitDepth s).lines = s.lines ∧ (emitDepth s).chain = s.chain ∧ (emitDepth s).beams = s.beams ∧
    (emitDepth s).tilt = s.tilt ∧ (emitDepth s).store = s.store ∧ (emitDepth s).run = s.run ∧
    (emitDepth s).ctl.state = s.ctl.state ∧ (emitDepth s).ctl.prior = s.ctl.prior ∧
    (emitDepth s).ctl.offColumn = s.ctl.offColumn ∧ (emitDepth s).depth.waiting = s.depth.waiting ∧
    (emitDepth s).depth.fresh = s.depth.fresh ∧ (emitDepth s).travel = s.travel ∧
    (emitDepth s).tick = s.tick ∧ (emitDepth s).test = s.test ∧ (emitDepth s).trace = s.trace ∧
    (emitDepth s).fwd = s.fwd ∧ (emitDepth s).portU = s.portU ∧ (emitDepth s).portD.queue = s.portD.queue ∧
    (emitDepth s).portD.travelSlot = s.portD.travelSlot ∧ (emitDepth s).portD.sent = s.portD.sent ∧
    (emitDepth s).events = s.events ∧ (emitDepth s).counters = s.counters ∧
    (emitDepth s).pending = s.pending ∧ (emitDepth s).choice = s.choice := by
  unfold emitDepth
  try dsimp only
  (repeat' split) <;> simp

@[simp] theorem emitDepthNow_frame (v : DepthValue) (s : State) :
    (emitDepthNow v s).now = s.now ∧ (emitDepthNow v s).node = s.node ∧
    (emitDepthNow v s).params = s.params ∧ (emitDepthNow v s).lines = s.lines ∧
    (emitDepthNow v s).chain = s.chain ∧ (emitDepthNow v s).beams = s.beams ∧
    (emitDepthNow v s).tilt = s.tilt ∧ (emitDepthNow v s).store = s.store ∧ (emitDepthNow v s).run = s.run ∧
    (emitDepthNow v s).ctl.state = s.ctl.state ∧ (emitDepthNow v s).ctl.prior = s.ctl.prior ∧
    (emitDepthNow v s).ctl.offColumn = s.ctl.offColumn ∧ (emitDepthNow v s).depth.waiting = s.depth.waiting ∧
    (emitDepthNow v s).depth.fresh = s.depth.fresh ∧ (emitDepthNow v s).travel = s.travel ∧
    (emitDepthNow v s).tick = s.tick ∧ (emitDepthNow v s).test = s.test ∧
    (emitDepthNow v s).trace = s.trace ∧ (emitDepthNow v s).fwd = s.fwd ∧
    (emitDepthNow v s).portU = s.portU ∧ (emitDepthNow v s).portD.queue = s.portD.queue ∧
    (emitDepthNow v s).portD.travelSlot = s.portD.travelSlot ∧ (emitDepthNow v s).portD.sent = s.portD.sent ∧
    (emitDepthNow v s).events = s.events ∧ (emitDepthNow v s).counters = s.counters ∧
    (emitDepthNow v s).pending = s.pending ∧ (emitDepthNow v s).choice = s.choice := by
  simp [emitDepthNow]

@[simp] theorem emitTravelNow_frame (v : TravelValue) (s : State) :
    (emitTravelNow v s).now = s.now ∧ (emitTravelNow v s).node = s.node ∧
    (emitTravelNow v s).params = s.params ∧ (emitTravelNow v s).lines = s.lines ∧
    (emitTravelNow v s).chain = s.chain ∧ (emitTravelNow v s).beams = s.beams ∧
    (emitTravelNow v s).tilt = s.tilt ∧ (emitTravelNow v s).store = s.store ∧
    (emitTravelNow v s).run = s.run ∧ (emitTravelNow v s).ctl = s.ctl ∧ (emitTravelNow v s).depth = s.depth ∧
    (emitTravelNow v s).travel.waiting = s.travel.waiting ∧
    (emitTravelNow v s).travel.fresh = s.travel.fresh ∧ (emitTravelNow v s).tick = s.tick ∧
    (emitTravelNow v s).test = s.test ∧ (emitTravelNow v s).trace = s.trace ∧
    (emitTravelNow v s).fwd = s.fwd ∧ (emitTravelNow v s).portU = s.portU ∧
    (emitTravelNow v s).portD.queue = s.portD.queue ∧
    (emitTravelNow v s).portD.depthSlot = s.portD.depthSlot ∧ (emitTravelNow v s).portD.sent = s.portD.sent ∧
    (emitTravelNow v s).events = s.events ∧ (emitTravelNow v s).counters = s.counters ∧
    (emitTravelNow v s).pending = s.pending ∧ (emitTravelNow v s).choice = s.choice := by
  simp [emitTravelNow]

@[simp] theorem writeDepth_frame (v : DepthValue) (s : State) :
    (writeDepth v s).now = s.now ∧ (writeDepth v s).node = s.node ∧ (writeDepth v s).params = s.params ∧
    (writeDepth v s).lines = s.lines ∧ (writeDepth v s).chain = s.chain ∧ (writeDepth v s).beams = s.beams ∧
    (writeDepth v s).tilt = s.tilt ∧ (writeDepth v s).store = s.store ∧ (writeDepth v s).run = s.run ∧
    (writeDepth v s).ctl.state = s.ctl.state ∧ (writeDepth v s).ctl.prior = s.ctl.prior ∧
    (writeDepth v s).ctl.offColumn = s.ctl.offColumn ∧ (writeDepth v s).travel = s.travel ∧
    (writeDepth v s).tick = s.tick ∧ (writeDepth v s).test = s.test ∧ (writeDepth v s).trace = s.trace ∧
    (writeDepth v s).fwd = s.fwd ∧ (writeDepth v s).portU = s.portU ∧
    (writeDepth v s).portD.queue = s.portD.queue ∧ (writeDepth v s).portD.travelSlot = s.portD.travelSlot ∧
    (writeDepth v s).portD.sent = s.portD.sent ∧ (writeDepth v s).events = s.events ∧
    (writeDepth v s).counters = s.counters ∧ (writeDepth v s).pending = s.pending ∧
    (writeDepth v s).choice = s.choice := by
  unfold writeDepth
  try dsimp only
  (repeat' split) <;> simp

@[simp] theorem writeTravel_frame (v : TravelValue) (s : State) :
    (writeTravel v s).now = s.now ∧ (writeTravel v s).node = s.node ∧ (writeTravel v s).params = s.params ∧
    (writeTravel v s).lines = s.lines ∧ (writeTravel v s).chain = s.chain ∧
    (writeTravel v s).beams = s.beams ∧ (writeTravel v s).tilt = s.tilt ∧ (writeTravel v s).store = s.store ∧
    (writeTravel v s).run = s.run ∧ (writeTravel v s).ctl = s.ctl ∧ (writeTravel v s).depth = s.depth ∧
    (writeTravel v s).tick = s.tick ∧ (writeTravel v s).test = s.test ∧ (writeTravel v s).trace = s.trace ∧
    (writeTravel v s).fwd = s.fwd ∧ (writeTravel v s).portU = s.portU ∧
    (writeTravel v s).portD.queue = s.portD.queue ∧ (writeTravel v s).portD.depthSlot = s.portD.depthSlot ∧
    (writeTravel v s).portD.sent = s.portD.sent ∧ (writeTravel v s).events = s.events ∧
    (writeTravel v s).counters = s.counters ∧ (writeTravel v s).pending = s.pending ∧
    (writeTravel v s).choice = s.choice := by
  unfold writeTravel
  try dsimp only
  (repeat' split) <;> simp

@[simp] theorem handback_frame (s : State) :
    (handback s).now = s.now ∧ (handback s).node = s.node ∧ (handback s).params = s.params ∧
    (handback s).lines = s.lines ∧ (handback s).chain = s.chain ∧ (handback s).beams = s.beams ∧
    (handback s).tilt = s.tilt ∧ (handback s).store = s.store ∧ (handback s).run = s.run ∧
    (handback s).ctl.state = s.ctl.state ∧ (handback s).ctl.prior = s.ctl.prior ∧
    (handback s).ctl.offColumn = s.ctl.offColumn ∧ (handback s).travel = s.travel ∧
    (handback s).tick = s.tick ∧ (handback s).test = s.test ∧ (handback s).trace = s.trace ∧
    (handback s).fwd = s.fwd ∧ (handback s).portU = s.portU ∧ (handback s).portD.queue = s.portD.queue ∧
    (handback s).portD.travelSlot = s.portD.travelSlot ∧ (handback s).portD.sent = s.portD.sent ∧
    (handback s).events = s.events ∧ (handback s).counters = s.counters ∧ (handback s).pending = s.pending ∧
    (handback s).choice = s.choice := by
  simp [handback]

@[simp] theorem tripFrames_frame (s : State) :
    (tripFrames s).now = s.now ∧ (tripFrames s).node = s.node ∧ (tripFrames s).params = s.params ∧
    (tripFrames s).lines = s.lines ∧ (tripFrames s).chain = s.chain ∧ (tripFrames s).beams = s.beams ∧
    (tripFrames s).tilt = s.tilt ∧ (tripFrames s).store = s.store ∧ (tripFrames s).run = s.run ∧
    (tripFrames s).ctl.state = s.ctl.state ∧ (tripFrames s).ctl.prior = s.ctl.prior ∧
    (tripFrames s).ctl.offColumn = s.ctl.offColumn ∧ (tripFrames s).tick = s.tick ∧
    (tripFrames s).test = s.test ∧ (tripFrames s).trace = s.trace ∧ (tripFrames s).fwd = s.fwd ∧
    (tripFrames s).portU = s.portU ∧ (tripFrames s).portD.queue = s.portD.queue ∧
    (tripFrames s).portD.sent = s.portD.sent ∧ (tripFrames s).events = s.events ∧
    (tripFrames s).counters = s.counters ∧ (tripFrames s).pending = s.pending ∧
    (tripFrames s).choice = s.choice := by
  simp [tripFrames]

@[simp] theorem streamOne_frame (s : State) :
    (streamOne s).now = s.now ∧ (streamOne s).node = s.node ∧ (streamOne s).params = s.params ∧
    (streamOne s).lines = s.lines ∧ (streamOne s).chain = s.chain ∧ (streamOne s).beams = s.beams ∧
    (streamOne s).tilt = s.tilt ∧ (streamOne s).store = s.store ∧ (streamOne s).run = s.run ∧
    (streamOne s).ctl = s.ctl ∧ (streamOne s).depth = s.depth ∧ (streamOne s).travel = s.travel ∧
    (streamOne s).tick = s.tick ∧ (streamOne s).test = s.test ∧ (streamOne s).trace.tail = s.trace.tail ∧
    (streamOne s).trace.mark = s.trace.mark ∧ (streamOne s).trace.seqNo = s.trace.seqNo ∧
    (streamOne s).trace.gateOpen = s.trace.gateOpen ∧ (streamOne s).fwd = s.fwd ∧
    (streamOne s).portU.sent = s.portU.sent ∧ (streamOne s).portD = s.portD ∧
    (streamOne s).events = s.events ∧ (streamOne s).counters = s.counters ∧
    (streamOne s).pending = s.pending ∧ (streamOne s).choice = s.choice := by
  simp [streamOne]

@[simp] theorem streamUpTo_frame (k : Nat) (s : State) :
    (streamUpTo k s).now = s.now ∧ (streamUpTo k s).node = s.node ∧ (streamUpTo k s).params = s.params ∧
    (streamUpTo k s).lines = s.lines ∧ (streamUpTo k s).chain = s.chain ∧ (streamUpTo k s).beams = s.beams ∧
    (streamUpTo k s).tilt = s.tilt ∧ (streamUpTo k s).store = s.store ∧ (streamUpTo k s).run = s.run ∧
    (streamUpTo k s).ctl = s.ctl ∧ (streamUpTo k s).depth = s.depth ∧ (streamUpTo k s).travel = s.travel ∧
    (streamUpTo k s).tick = s.tick ∧ (streamUpTo k s).test = s.test ∧
    (streamUpTo k s).trace.tail = s.trace.tail ∧ (streamUpTo k s).trace.mark = s.trace.mark ∧
    (streamUpTo k s).trace.seqNo = s.trace.seqNo ∧ (streamUpTo k s).trace.gateOpen = s.trace.gateOpen ∧
    (streamUpTo k s).fwd = s.fwd ∧ (streamUpTo k s).portU.sent = s.portU.sent ∧
    (streamUpTo k s).portD = s.portD ∧ (streamUpTo k s).events = s.events ∧
    (streamUpTo k s).counters = s.counters ∧ (streamUpTo k s).pending = s.pending ∧
    (streamUpTo k s).choice = s.choice := by
  induction k generalizing s with
  | zero => simp [streamUpTo]
  | succ k ih =>
    unfold streamUpTo
    split
    · simp [ih]
    · simp

@[simp] theorem burst_frame (s : State) :
    (burst s).now = s.now ∧ (burst s).node = s.node ∧ (burst s).params = s.params ∧
    (burst s).lines = s.lines ∧ (burst s).chain = s.chain ∧ (burst s).beams = s.beams ∧
    (burst s).tilt = s.tilt ∧ (burst s).store = s.store ∧ (burst s).run = s.run ∧ (burst s).ctl = s.ctl ∧
    (burst s).depth = s.depth ∧ (burst s).travel = s.travel ∧ (burst s).tick = s.tick ∧
    (burst s).test = s.test ∧ (burst s).trace.tail = s.trace.tail ∧ (burst s).trace.mark = s.trace.mark ∧
    (burst s).trace.seqNo = s.trace.seqNo ∧ (burst s).trace.gateOpen = s.trace.gateOpen ∧
    (burst s).fwd = s.fwd ∧ (burst s).portU.sent = s.portU.sent ∧ (burst s).portD = s.portD ∧
    (burst s).events = s.events ∧ (burst s).counters = s.counters ∧ (burst s).pending = s.pending ∧
    (burst s).choice = s.choice := by
  unfold burst
  try dsimp only
  (repeat' split) <;> simp

@[simp] theorem streamTick_frame (s : State) :
    (streamTick s).now = s.now ∧ (streamTick s).node = s.node ∧ (streamTick s).params = s.params ∧
    (streamTick s).lines = s.lines ∧ (streamTick s).chain = s.chain ∧ (streamTick s).beams = s.beams ∧
    (streamTick s).tilt = s.tilt ∧ (streamTick s).store = s.store ∧ (streamTick s).run = s.run ∧
    (streamTick s).ctl = s.ctl ∧ (streamTick s).depth = s.depth ∧ (streamTick s).travel = s.travel ∧
    (streamTick s).tick = s.tick ∧ (streamTick s).test = s.test ∧ (streamTick s).trace.tail = s.trace.tail ∧
    (streamTick s).trace.mark = s.trace.mark ∧ (streamTick s).trace.seqNo = s.trace.seqNo ∧
    (streamTick s).trace.gateOpen = s.trace.gateOpen ∧ (streamTick s).fwd = s.fwd ∧
    (streamTick s).portU.sent = s.portU.sent ∧ (streamTick s).portD = s.portD ∧
    (streamTick s).events = s.events ∧ (streamTick s).counters = s.counters ∧
    (streamTick s).pending = s.pending ∧ (streamTick s).choice = s.choice := by
  unfold streamTick
  try dsimp only
  (repeat' split) <;> simp

@[simp] theorem dropRecord_frame (c : Nat) (s : State) :
    (dropRecord c s).now = s.now ∧ (dropRecord c s).node = s.node ∧ (dropRecord c s).params = s.params ∧
    (dropRecord c s).lines = s.lines ∧ (dropRecord c s).chain = s.chain ∧ (dropRecord c s).beams = s.beams ∧
    (dropRecord c s).tilt = s.tilt ∧ (dropRecord c s).store = s.store ∧ (dropRecord c s).run = s.run ∧
    (dropRecord c s).ctl = s.ctl ∧ (dropRecord c s).depth = s.depth ∧ (dropRecord c s).travel = s.travel ∧
    (dropRecord c s).tick = s.tick ∧ (dropRecord c s).test = s.test ∧ (dropRecord c s).trace = s.trace ∧
    (dropRecord c s).fwd = s.fwd ∧ (dropRecord c s).portU.sent = s.portU.sent ∧
    (dropRecord c s).portD = s.portD ∧ (dropRecord c s).events.mask = s.events.mask ∧
    (dropRecord c s).pending = s.pending ∧ (dropRecord c s).choice = s.choice := by
  simp [dropRecord]

@[simp] theorem storeRecord_frame (c : Nat) (r : Bool) (q : BitVec 32) (s : State) :
    (storeRecord c r q s).now = s.now ∧ (storeRecord c r q s).node = s.node ∧
    (storeRecord c r q s).params = s.params ∧ (storeRecord c r q s).lines = s.lines ∧
    (storeRecord c r q s).chain = s.chain ∧ (storeRecord c r q s).beams = s.beams ∧
    (storeRecord c r q s).tilt = s.tilt ∧ (storeRecord c r q s).store = s.store ∧
    (storeRecord c r q s).run = s.run ∧ (storeRecord c r q s).ctl = s.ctl ∧
    (storeRecord c r q s).depth = s.depth ∧ (storeRecord c r q s).travel = s.travel ∧
    (storeRecord c r q s).tick = s.tick ∧ (storeRecord c r q s).test = s.test ∧
    (storeRecord c r q s).trace.read = s.trace.read ∧ (storeRecord c r q s).trace.mark = s.trace.mark ∧
    (storeRecord c r q s).trace.seqNo = s.trace.seqNo ∧
    (storeRecord c r q s).trace.gateOpen = s.trace.gateOpen ∧ (storeRecord c r q s).fwd = s.fwd ∧
    (storeRecord c r q s).portU.sent = s.portU.sent ∧ (storeRecord c r q s).portD = s.portD ∧
    (storeRecord c r q s).events.mask = s.events.mask ∧ (storeRecord c r q s).pending = s.pending ∧
    (storeRecord c r q s).choice = s.choice := by
  simp [storeRecord]

@[simp] theorem checkWatermark_frame (c : Nat) (s : State) :
    (checkWatermark c s).now = s.now ∧ (checkWatermark c s).node = s.node ∧
    (checkWatermark c s).params = s.params ∧ (checkWatermark c s).lines = s.lines ∧
    (checkWatermark c s).chain = s.chain ∧ (checkWatermark c s).beams = s.beams ∧
    (checkWatermark c s).tilt = s.tilt ∧ (checkWatermark c s).store = s.store ∧
    (checkWatermark c s).run = s.run ∧ (checkWatermark c s).ctl = s.ctl ∧
    (checkWatermark c s).depth = s.depth ∧ (checkWatermark c s).travel = s.travel ∧
    (checkWatermark c s).tick = s.tick ∧ (checkWatermark c s).test = s.test ∧
    (checkWatermark c s).trace = s.trace ∧ (checkWatermark c s).fwd = s.fwd ∧
    (checkWatermark c s).portU.sent = s.portU.sent ∧ (checkWatermark c s).portD = s.portD ∧
    (checkWatermark c s).events.mask = s.events.mask ∧ (checkWatermark c s).pending = s.pending ∧
    (checkWatermark c s).choice = s.choice := by
  unfold checkWatermark
  try dsimp only
  (repeat' split) <;> simp

@[simp] theorem crossing_frame (r : Bool) (c : Nat) (s : State) :
    (crossing r c s).now = s.now ∧ (crossing r c s).node = s.node ∧ (crossing r c s).params = s.params ∧
    (crossing r c s).lines = s.lines ∧ (crossing r c s).chain = s.chain ∧ (crossing r c s).beams = s.beams ∧
    (crossing r c s).tilt = s.tilt ∧ (crossing r c s).store = s.store ∧ (crossing r c s).run = s.run ∧
    (crossing r c s).ctl = s.ctl ∧ (crossing r c s).depth = s.depth ∧ (crossing r c s).travel = s.travel ∧
    (crossing r c s).tick = s.tick ∧ (crossing r c s).test = s.test ∧
    (crossing r c s).trace.mark = s.trace.mark ∧ (crossing r c s).trace.gateOpen = s.trace.gateOpen ∧
    (crossing r c s).fwd = s.fwd ∧ (crossing r c s).portU.sent = s.portU.sent ∧
    (crossing r c s).portD = s.portD ∧ (crossing r c s).events.mask = s.events.mask ∧
    (crossing r c s).pending = s.pending ∧ (crossing r c s).choice = s.choice := by
  unfold crossing
  try dsimp only
  (repeat' split) <;> simp

@[simp] theorem enterIdle_frame (n : CtlState) (s : State) :
    (enterIdle n s).now = s.now ∧ (enterIdle n s).node = s.node ∧ (enterIdle n s).params = s.params ∧
    (enterIdle n s).lines = s.lines ∧ (enterIdle n s).chain = s.chain ∧ (enterIdle n s).beams = s.beams ∧
    (enterIdle n s).tilt = s.tilt ∧ (enterIdle n s).store = s.store ∧ (enterIdle n s).run = s.run ∧
    (enterIdle n s).ctl.prior = s.ctl.prior ∧ (enterIdle n s).tick = s.tick ∧ (enterIdle n s).test = s.test ∧
    (enterIdle n s).trace = s.trace ∧ (enterIdle n s).fwd = s.fwd ∧ (enterIdle n s).portU = s.portU ∧
    (enterIdle n s).portD.queue = s.portD.queue ∧ (enterIdle n s).portD.sent = s.portD.sent ∧
    (enterIdle n s).events = s.events ∧ (enterIdle n s).counters = s.counters ∧
    (enterIdle n s).pending = s.pending ∧ (enterIdle n s).choice = s.choice := by
  simp [enterIdle]

@[simp] theorem releaseControl_frame (n : CtlState) (s : State) :
    (releaseControl n s).now = s.now ∧ (releaseControl n s).node = s.node ∧
    (releaseControl n s).params = s.params ∧ (releaseControl n s).lines = s.lines ∧
    (releaseControl n s).chain = s.chain ∧ (releaseControl n s).beams = s.beams ∧
    (releaseControl n s).tilt = s.tilt ∧ (releaseControl n s).store = s.store ∧
    (releaseControl n s).run = s.run ∧ (releaseControl n s).ctl.prior = s.ctl.prior ∧
    (releaseControl n s).tick = s.tick ∧ (releaseControl n s).test = s.test ∧
    (releaseControl n s).trace = s.trace ∧ (releaseControl n s).fwd = s.fwd ∧
    (releaseControl n s).portU = s.portU ∧ (releaseControl n s).portD.queue = s.portD.queue ∧
    (releaseControl n s).portD.sent = s.portD.sent ∧ (releaseControl n s).events = s.events ∧
    (releaseControl n s).counters = s.counters ∧ (releaseControl n s).pending = s.pending ∧
    (releaseControl n s).choice = s.choice := by
  unfold releaseControl
  try dsimp only
  (repeat' split) <;> simp

@[simp] theorem enterAuto_frame (s : State) :
    (enterAuto s).now = s.now ∧ (enterAuto s).node = s.node ∧ (enterAuto s).params = s.params ∧
    (enterAuto s).lines = s.lines ∧ (enterAuto s).chain = s.chain ∧ (enterAuto s).beams = s.beams ∧
    (enterAuto s).tilt = s.tilt ∧ (enterAuto s).store = s.store ∧ (enterAuto s).run = s.run ∧
    (enterAuto s).ctl.prior = s.ctl.prior ∧ (enterAuto s).depth = s.depth ∧ (enterAuto s).travel = s.travel ∧
    (enterAuto s).tick = s.tick ∧ (enterAuto s).test = s.test ∧ (enterAuto s).trace = s.trace ∧
    (enterAuto s).fwd = s.fwd ∧ (enterAuto s).portU = s.portU ∧
    (enterAuto s).portD.depthSlot = s.portD.depthSlot ∧ (enterAuto s).portD.travelSlot = s.portD.travelSlot ∧
    (enterAuto s).portD.sent = s.portD.sent ∧ (enterAuto s).events = s.events ∧
    (enterAuto s).counters = s.counters ∧ (enterAuto s).pending = s.pending ∧ (enterAuto s).choice = s.choice := by
  simp [enterAuto]

@[simp] theorem enterHold_frame (s : State) :
    (enterHold s).now = s.now ∧ (enterHold s).node = s.node ∧ (enterHold s).params = s.params ∧
    (enterHold s).lines = s.lines ∧ (enterHold s).chain = s.chain ∧ (enterHold s).beams = s.beams ∧
    (enterHold s).tilt = s.tilt ∧ (enterHold s).store = s.store ∧ (enterHold s).run = s.run ∧
    (enterHold s).ctl.prior = s.ctl.prior ∧ (enterHold s).tick = s.tick ∧ (enterHold s).test = s.test ∧
    (enterHold s).trace = s.trace ∧ (enterHold s).fwd = s.fwd ∧ (enterHold s).portU = s.portU ∧
    (enterHold s).portD.queue = s.portD.queue ∧ (enterHold s).portD.sent = s.portD.sent ∧
    (enterHold s).events = s.events ∧ (enterHold s).counters = s.counters ∧
    (enterHold s).pending = s.pending ∧ (enterHold s).choice = s.choice := by
  simp [enterHold]

@[simp] theorem enterSuspended_frame (s : State) :
    (enterSuspended s).now = s.now ∧ (enterSuspended s).node = s.node ∧
    (enterSuspended s).params = s.params ∧ (enterSuspended s).lines = s.lines ∧
    (enterSuspended s).chain = s.chain ∧ (enterSuspended s).beams = s.beams ∧
    (enterSuspended s).tilt = s.tilt ∧ (enterSuspended s).store = s.store ∧ (enterSuspended s).run = s.run ∧
    (enterSuspended s).ctl.prior = s.ctl.prior ∧ (enterSuspended s).tick = s.tick ∧
    (enterSuspended s).test = s.test ∧ (enterSuspended s).trace = s.trace ∧ (enterSuspended s).fwd = s.fwd ∧
    (enterSuspended s).portU = s.portU ∧ (enterSuspended s).portD.queue = s.portD.queue ∧
    (enterSuspended s).portD.sent = s.portD.sent ∧ (enterSuspended s).events = s.events ∧
    (enterSuspended s).counters = s.counters ∧ (enterSuspended s).pending = s.pending ∧
    (enterSuspended s).choice = s.choice := by
  simp [enterSuspended]

@[simp] theorem enterTest_frame (s : State) :
    (enterTest s).now = s.now ∧ (enterTest s).node = s.node ∧ (enterTest s).params = s.params ∧
    (enterTest s).lines = s.lines ∧ (enterTest s).chain = s.chain ∧ (enterTest s).beams = s.beams ∧
    (enterTest s).tilt = s.tilt ∧ (enterTest s).store = s.store ∧ (enterTest s).run = s.run ∧
    (enterTest s).ctl.memory = s.ctl.memory ∧ (enterTest s).depth = s.depth ∧ (enterTest s).tick = s.tick ∧
    (enterTest s).test = s.test ∧ (enterTest s).trace = s.trace ∧ (enterTest s).fwd = s.fwd ∧
    (enterTest s).portU = s.portU ∧ (enterTest s).portD.depthSlot = s.portD.depthSlot ∧
    (enterTest s).portD.sent = s.portD.sent ∧ (enterTest s).events = s.events ∧
    (enterTest s).counters = s.counters ∧ (enterTest s).pending = s.pending ∧ (enterTest s).choice = s.choice := by
  simp [enterTest]

@[simp] theorem closeTest_frame (o : TestOutcome) (t : TestRun) (i : Option Nat) (s : State) :
    (closeTest o t i s).now = s.now ∧ (closeTest o t i s).node = s.node ∧
    (closeTest o t i s).params = s.params ∧ (closeTest o t i s).lines = s.lines ∧
    (closeTest o t i s).chain = s.chain ∧ (closeTest o t i s).beams = s.beams ∧
    (closeTest o t i s).tilt = s.tilt ∧ (closeTest o t i s).store = s.store ∧
    (closeTest o t i s).run = s.run ∧ (closeTest o t i s).ctl.state = s.ctl.state ∧
    (closeTest o t i s).ctl.prior = s.ctl.prior ∧ (closeTest o t i s).ctl.offColumn = s.ctl.offColumn ∧
    (closeTest o t i s).depth.waiting = s.depth.waiting ∧ (closeTest o t i s).depth.fresh = s.depth.fresh ∧
    (closeTest o t i s).travel = s.travel ∧ (closeTest o t i s).tick = s.tick ∧
    (closeTest o t i s).trace = s.trace ∧ (closeTest o t i s).fwd = s.fwd ∧
    (closeTest o t i s).portU.sent = s.portU.sent ∧ (closeTest o t i s).portD.queue = s.portD.queue ∧
    (closeTest o t i s).portD.travelSlot = s.portD.travelSlot ∧
    (closeTest o t i s).portD.sent = s.portD.sent ∧ (closeTest o t i s).events.mask = s.events.mask ∧
    (closeTest o t i s).pending = s.pending ∧ (closeTest o t i s).choice = s.choice := by
  unfold closeTest
  try dsimp only
  (repeat' split) <;> simp

@[simp] theorem closeRunningTest_frame (o : TestOutcome) (s : State) :
    (closeRunningTest o s).now = s.now ∧ (closeRunningTest o s).node = s.node ∧
    (closeRunningTest o s).params = s.params ∧ (closeRunningTest o s).lines = s.lines ∧
    (closeRunningTest o s).chain = s.chain ∧ (closeRunningTest o s).beams = s.beams ∧
    (closeRunningTest o s).tilt = s.tilt ∧ (closeRunningTest o s).store = s.store ∧
    (closeRunningTest o s).run = s.run ∧ (closeRunningTest o s).ctl.state = s.ctl.state ∧
    (closeRunningTest o s).ctl.prior = s.ctl.prior ∧ (closeRunningTest o s).ctl.offColumn = s.ctl.offColumn ∧
    (closeRunningTest o s).depth.waiting = s.depth.waiting ∧
    (closeRunningTest o s).depth.fresh = s.depth.fresh ∧ (closeRunningTest o s).travel = s.travel ∧
    (closeRunningTest o s).tick = s.tick ∧ (closeRunningTest o s).trace = s.trace ∧
    (closeRunningTest o s).fwd = s.fwd ∧ (closeRunningTest o s).portU.sent = s.portU.sent ∧
    (closeRunningTest o s).portD.queue = s.portD.queue ∧
    (closeRunningTest o s).portD.travelSlot = s.portD.travelSlot ∧
    (closeRunningTest o s).portD.sent = s.portD.sent ∧ (closeRunningTest o s).events.mask = s.events.mask ∧
    (closeRunningTest o s).pending = s.pending ∧ (closeRunningTest o s).choice = s.choice := by
  unfold closeRunningTest
  try dsimp only
  (repeat' split) <;> simp

@[simp] theorem returnFromTest_frame (s : State) :
    (returnFromTest s).now = s.now ∧ (returnFromTest s).node = s.node ∧
    (returnFromTest s).params = s.params ∧ (returnFromTest s).lines = s.lines ∧
    (returnFromTest s).chain = s.chain ∧ (returnFromTest s).beams = s.beams ∧
    (returnFromTest s).tilt = s.tilt ∧ (returnFromTest s).store = s.store ∧ (returnFromTest s).run = s.run ∧
    (returnFromTest s).tick = s.tick ∧ (returnFromTest s).test = s.test ∧
    (returnFromTest s).trace = s.trace ∧ (returnFromTest s).fwd = s.fwd ∧
    (returnFromTest s).portU = s.portU ∧ (returnFromTest s).portD.queue = s.portD.queue ∧
    (returnFromTest s).portD.sent = s.portD.sent ∧ (returnFromTest s).events = s.events ∧
    (returnFromTest s).counters = s.counters ∧ (returnFromTest s).pending = s.pending ∧
    (returnFromTest s).choice = s.choice := by
  unfold returnFromTest
  try dsimp only
  (repeat' split) <;> simp

@[simp] theorem endTest_frame (o : TestOutcome) (s : State) :
    (endTest o s).now = s.now ∧ (endTest o s).node = s.node ∧ (endTest o s).params = s.params ∧
    (endTest o s).lines = s.lines ∧ (endTest o s).chain = s.chain ∧ (endTest o s).beams = s.beams ∧
    (endTest o s).tilt = s.tilt ∧ (endTest o s).store = s.store ∧ (endTest o s).run = s.run ∧
    (endTest o s).tick = s.tick ∧ (endTest o s).trace = s.trace ∧ (endTest o s).fwd = s.fwd ∧
    (endTest o s).portU.sent = s.portU.sent ∧ (endTest o s).portD.queue = s.portD.queue ∧
    (endTest o s).portD.sent = s.portD.sent ∧ (endTest o s).events.mask = s.events.mask ∧
    (endTest o s).pending = s.pending ∧ (endTest o s).choice = s.choice := by
  unfold endTest
  try dsimp only
  (repeat' split) <;> simp

@[simp] theorem reportFading_frame (c : BeamCode) (s : State) :
    (reportFading c s).now = s.now ∧ (reportFading c s).node = s.node ∧
    (reportFading c s).params = s.params ∧ (reportFading c s).lines = s.lines ∧
    (reportFading c s).chain.s = s.chain.s ∧ (reportFading c s).chain.r = s.chain.r ∧
    (reportFading c s).chain.h = s.chain.h ∧ (reportFading c s).chain.n = s.chain.n ∧
    (reportFading c s).beams = s.beams ∧ (reportFading c s).tilt = s.tilt ∧
    (reportFading c s).store = s.store ∧ (reportFading c s).run = s.run ∧
    (reportFading c s).ctl.prior = s.ctl.prior ∧ (reportFading c s).tick = s.tick ∧
    (reportFading c s).test = s.test ∧ (reportFading c s).trace = s.trace ∧ (reportFading c s).fwd = s.fwd ∧
    (reportFading c s).portU.sent = s.portU.sent ∧ (reportFading c s).portD.queue = s.portD.queue ∧
    (reportFading c s).portD.sent = s.portD.sent ∧ (reportFading c s).events.mask = s.events.mask ∧
    (reportFading c s).pending = s.pending ∧ (reportFading c s).choice = s.choice := by
  unfold reportFading
  try dsimp only
  (repeat' split) <;> simp

@[simp] theorem reportRecovered_frame (s : State) :
    (reportRecovered s).now = s.now ∧ (reportRecovered s).node = s.node ∧
    (reportRecovered s).params = s.params ∧ (reportRecovered s).lines = s.lines ∧
    (reportRecovered s).chain = s.chain ∧ (reportRecovered s).beams = s.beams ∧
    (reportRecovered s).tilt = s.tilt ∧ (reportRecovered s).store = s.store ∧
    (reportRecovered s).run = s.run ∧ (reportRecovered s).ctl.prior = s.ctl.prior ∧
    (reportRecovered s).depth = s.depth ∧ (reportRecovered s).travel = s.travel ∧
    (reportRecovered s).tick = s.tick ∧ (reportRecovered s).test = s.test ∧
    (reportRecovered s).trace = s.trace ∧ (reportRecovered s).fwd = s.fwd ∧
    (reportRecovered s).portU = s.portU ∧ (reportRecovered s).portD.depthSlot = s.portD.depthSlot ∧
    (reportRecovered s).portD.travelSlot = s.portD.travelSlot ∧
    (reportRecovered s).portD.sent = s.portD.sent ∧ (reportRecovered s).events = s.events ∧
    (reportRecovered s).counters = s.counters ∧ (reportRecovered s).pending = s.pending ∧
    (reportRecovered s).choice = s.choice := by
  unfold reportRecovered
  try dsimp only
  (repeat' split) <;> simp

@[simp] theorem reportSuspend_frame (s : State) :
    (reportSuspend s).now = s.now ∧ (reportSuspend s).node = s.node ∧ (reportSuspend s).params = s.params ∧
    (reportSuspend s).lines = s.lines ∧ (reportSuspend s).chain = s.chain ∧
    (reportSuspend s).beams = s.beams ∧ (reportSuspend s).tilt = s.tilt ∧ (reportSuspend s).store = s.store ∧
    (reportSuspend s).run = s.run ∧ (reportSuspend s).ctl.prior = s.ctl.prior ∧
    (reportSuspend s).tick = s.tick ∧ (reportSuspend s).test = s.test ∧ (reportSuspend s).trace = s.trace ∧
    (reportSuspend s).fwd = s.fwd ∧ (reportSuspend s).portU.sent = s.portU.sent ∧
    (reportSuspend s).portD.queue = s.portD.queue ∧ (reportSuspend s).portD.sent = s.portD.sent ∧
    (reportSuspend s).events.mask = s.events.mask ∧ (reportSuspend s).pending = s.pending ∧
    (reportSuspend s).choice = s.choice := by
  unfold reportSuspend
  try dsimp only
  (repeat' split) <;> simp

@[simp] theorem referenceChanged_frame (s : State) :
    (referenceChanged s).now = s.now ∧ (referenceChanged s).node = s.node ∧
    (referenceChanged s).params = s.params ∧ (referenceChanged s).lines = s.lines ∧
    (referenceChanged s).chain = s.chain ∧ (referenceChanged s).tilt = s.tilt ∧
    (referenceChanged s).store = s.store ∧ (referenceChanged s).run = s.run ∧
    (referenceChanged s).ctl.state = s.ctl.state ∧ (referenceChanged s).ctl.prior = s.ctl.prior ∧
    (referenceChanged s).ctl.offColumn = s.ctl.offColumn ∧ (referenceChanged s).depth = s.depth ∧
    (referenceChanged s).travel = s.travel ∧ (referenceChanged s).tick = s.tick ∧
    (referenceChanged s).test = s.test ∧ (referenceChanged s).trace = s.trace ∧
    (referenceChanged s).fwd = s.fwd ∧ (referenceChanged s).portU = s.portU ∧
    (referenceChanged s).portD = s.portD ∧ (referenceChanged s).events = s.events ∧
    (referenceChanged s).counters = s.counters ∧ (referenceChanged s).pending = s.pending ∧
    (referenceChanged s).choice = s.choice := by
  simp [referenceChanged]

@[simp] theorem trip_frame (s : State) :
    (trip s).now = s.now ∧ (trip s).node = s.node ∧ (trip s).params = s.params ∧ (trip s).lines = s.lines ∧
    (trip s).chain = s.chain ∧ (trip s).beams = s.beams ∧ (trip s).tilt = s.tilt ∧ (trip s).store = s.store ∧
    (trip s).run = s.run ∧ (trip s).tick = s.tick ∧ (trip s).trace = s.trace ∧ (trip s).fwd = s.fwd ∧
    (trip s).portU.sent = s.portU.sent ∧ (trip s).portD.sent = s.portD.sent ∧
    (trip s).events.mask = s.events.mask ∧ (trip s).pending = s.pending ∧ (trip s).choice = s.choice := by
  simp [trip]

@[simp] theorem finishComputation_frame (r : Int) (l : Nat) (s : State) :
    (finishComputation r l s).now = s.now ∧ (finishComputation r l s).node = s.node ∧
    (finishComputation r l s).params = s.params ∧ (finishComputation r l s).lines = s.lines ∧
    (finishComputation r l s).chain = s.chain ∧ (finishComputation r l s).beams = s.beams ∧
    (finishComputation r l s).tilt = s.tilt ∧ (finishComputation r l s).store = s.store ∧
    (finishComputation r l s).run = s.run ∧ (finishComputation r l s).ctl.state = s.ctl.state ∧
    (finishComputation r l s).ctl.prior = s.ctl.prior ∧
    (finishComputation r l s).ctl.offColumn = s.ctl.offColumn ∧ (finishComputation r l s).tick = s.tick ∧
    (finishComputation r l s).test = s.test ∧ (finishComputation r l s).trace = s.trace ∧
    (finishComputation r l s).fwd = s.fwd ∧ (finishComputation r l s).portU = s.portU ∧
    (finishComputation r l s).portD.queue = s.portD.queue ∧
    (finishComputation r l s).portD.sent = s.portD.sent ∧ (finishComputation r l s).events = s.events ∧
    (finishComputation r l s).counters = s.counters ∧ (finishComputation r l s).pending = s.pending ∧
    (finishComputation r l s).choice = s.choice := by
  simp [finishComputation]

@[simp] theorem measuredComputation_frame (s : State) :
    (measuredComputation s).now = s.now ∧ (measuredComputation s).node = s.node ∧
    (measuredComputation s).params = s.params ∧ (measuredComputation s).lines = s.lines ∧
    (measuredComputation s).chain = s.chain ∧ (measuredComputation s).beams = s.beams ∧
    (measuredComputation s).tilt = s.tilt ∧ (measuredComputation s).store = s.store ∧
    (measuredComputation s).run = s.run ∧ (measuredComputation s).ctl.state = s.ctl.state ∧
    (measuredComputation s).ctl.prior = s.ctl.prior ∧ (measuredComputation s).tick = s.tick ∧
    (measuredComputation s).test = s.test ∧ (measuredComputation s).trace = s.trace ∧
    (measuredComputation s).fwd = s.fwd ∧ (measuredComputation s).portU.sent = s.portU.sent ∧
    (measuredComputation s).portD.queue = s.portD.queue ∧ (measuredComputation s).portD.sent = s.portD.sent ∧
    (measuredComputation s).events.mask = s.events.mask ∧ (measuredComputation s).pending = s.pending ∧
    (measuredComputation s).choice = s.choice := by
  unfold measuredComputation
  try dsimp only
  (repeat' split) <;> simp

@[simp] theorem offColumnComputation_frame (c : BeamCode) (h : Bool) (s : State) :
    (offColumnComputation c h s).now = s.now ∧ (offColumnComputation c h s).node = s.node ∧
    (offColumnComputation c h s).params = s.params ∧ (offColumnComputation c h s).lines = s.lines ∧
    (offColumnComputation c h s).chain = s.chain ∧ (offColumnComputation c h s).beams = s.beams ∧
    (offColumnComputation c h s).tilt = s.tilt ∧ (offColumnComputation c h s).store = s.store ∧
    (offColumnComputation c h s).run = s.run ∧ (offColumnComputation c h s).ctl.state = s.ctl.state ∧
    (offColumnComputation c h s).ctl.prior = s.ctl.prior ∧ (offColumnComputation c h s).tick = s.tick ∧
    (offColumnComputation c h s).test = s.test ∧ (offColumnComputation c h s).trace = s.trace ∧
    (offColumnComputation c h s).fwd = s.fwd ∧ (offColumnComputation c h s).portU.sent = s.portU.sent ∧
    (offColumnComputation c h s).portD.queue = s.portD.queue ∧
    (offColumnComputation c h s).portD.sent = s.portD.sent ∧
    (offColumnComputation c h s).events.mask = s.events.mask ∧
    (offColumnComputation c h s).pending = s.pending ∧ (offColumnComputation c h s).choice = s.choice := by
  unfold offColumnComputation
  try dsimp only
  (repeat' split) <;> simp

@[simp] theorem referenceStrike_frame (c : BeamCode) (r : StrikeResult) (s : State) :
    (referenceStrike c r s).now = s.now ∧ (referenceStrike c r s).node = s.node ∧
    (referenceStrike c r s).params = s.params ∧ (referenceStrike c r s).lines = s.lines ∧
    (referenceStrike c r s).chain = s.chain ∧ (referenceStrike c r s).beams = s.beams ∧
    (referenceStrike c r s).tilt = s.tilt ∧ (referenceStrike c r s).store = s.store ∧
    (referenceStrike c r s).run = s.run ∧ (referenceStrike c r s).ctl.state = s.ctl.state ∧
    (referenceStrike c r s).ctl.prior = s.ctl.prior ∧ (referenceStrike c r s).tick = s.tick ∧
    (referenceStrike c r s).test = s.test ∧ (referenceStrike c r s).trace = s.trace ∧
    (referenceStrike c r s).fwd = s.fwd ∧ (referenceStrike c r s).portU.sent = s.portU.sent ∧
    (referenceStrike c r s).portD.queue = s.portD.queue ∧ (referenceStrike c r s).portD.sent = s.portD.sent ∧
    (referenceStrike c r s).events.mask = s.events.mask ∧ (referenceStrike c r s).pending = s.pending ∧
    (referenceStrike c r s).choice = s.choice := by
  unfold referenceStrike
  try dsimp only
  (repeat' split) <;> simp

@[simp] theorem checkSequence_frame (c : BeamCode) (n : Byte) (s : State) :
    (checkSequence c n s).now = s.now ∧ (checkSequence c n s).node = s.node ∧
    (checkSequence c n s).params = s.params ∧ (checkSequence c n s).lines = s.lines ∧
    (checkSequence c n s).chain = s.chain ∧ (checkSequence c n s).tilt = s.tilt ∧
    (checkSequence c n s).store = s.store ∧ (checkSequence c n s).run = s.run ∧
    (checkSequence c n s).ctl = s.ctl ∧ (checkSequence c n s).depth = s.depth ∧
    (checkSequence c n s).travel = s.travel ∧ (checkSequence c n s).tick = s.tick ∧
    (checkSequence c n s).test = s.test ∧ (checkSequence c n s).trace = s.trace ∧
    (checkSequence c n s).fwd = s.fwd ∧ (checkSequence c n s).portU.sent = s.portU.sent ∧
    (checkSequence c n s).portD = s.portD ∧ (checkSequence c n s).events.mask = s.events.mask ∧
    (checkSequence c n s).pending = s.pending ∧ (checkSequence c n s).choice = s.choice := by
  unfold checkSequence
  try dsimp only
  (repeat' split) <;> simp

@[simp] theorem acceptHeight_frame (c : BeamCode) (b : Int) (s : State) :
    (acceptHeight c b s).now = s.now ∧ (acceptHeight c b s).node = s.node ∧
    (acceptHeight c b s).params = s.params ∧ (acceptHeight c b s).lines = s.lines ∧
    (acceptHeight c b s).chain = s.chain ∧ (acceptHeight c b s).tilt = s.tilt ∧
    (acceptHeight c b s).store = s.store ∧ (acceptHeight c b s).run = s.run ∧
    (acceptHeight c b s).ctl = s.ctl ∧ (acceptHeight c b s).depth = s.depth ∧
    (acceptHeight c b s).travel = s.travel ∧ (acceptHeight c b s).tick = s.tick ∧
    (acceptHeight c b s).test = s.test ∧ (acceptHeight c b s).trace = s.trace ∧
    (acceptHeight c b s).fwd = s.fwd ∧ (acceptHeight c b s).portU = s.portU ∧
    (acceptHeight c b s).portD = s.portD ∧ (acceptHeight c b s).events = s.events ∧
    (acceptHeight c b s).pending = s.pending ∧ (acceptHeight c b s).choice = s.choice := by
  simp [acceptHeight]

@[simp] theorem chooseFirst_frame (c : BeamCode) (s : State) :
    (chooseFirst c s).now = s.now ∧ (chooseFirst c s).node = s.node ∧ (chooseFirst c s).params = s.params ∧
    (chooseFirst c s).lines = s.lines ∧ (chooseFirst c s).chain = s.chain ∧ (chooseFirst c s).tilt = s.tilt ∧
    (chooseFirst c s).store = s.store ∧ (chooseFirst c s).run = s.run ∧
    (chooseFirst c s).ctl.state = s.ctl.state ∧ (chooseFirst c s).ctl.prior = s.ctl.prior ∧
    (chooseFirst c s).ctl.offColumn = s.ctl.offColumn ∧ (chooseFirst c s).depth = s.depth ∧
    (chooseFirst c s).travel = s.travel ∧ (chooseFirst c s).tick = s.tick ∧ (chooseFirst c s).test = s.test ∧
    (chooseFirst c s).trace = s.trace ∧ (chooseFirst c s).fwd = s.fwd ∧ (chooseFirst c s).portU = s.portU ∧
    (chooseFirst c s).portD = s.portD ∧ (chooseFirst c s).events = s.events ∧
    (chooseFirst c s).counters = s.counters ∧ (chooseFirst c s).pending = s.pending ∧
    (chooseFirst c s).choice = s.choice := by
  unfold chooseFirst
  try dsimp only
  (repeat' split) <;> simp

@[simp] theorem countGood_frame (c : BeamCode) (s : State) :
    (countGood c s).now = s.now ∧ (countGood c s).node = s.node ∧ (countGood c s).params = s.params ∧
    (countGood c s).lines = s.lines ∧ (countGood c s).chain = s.chain ∧ (countGood c s).tilt = s.tilt ∧
    (countGood c s).store = s.store ∧ (countGood c s).run = s.run ∧ (countGood c s).ctl.state = s.ctl.state ∧
    (countGood c s).ctl.prior = s.ctl.prior ∧ (countGood c s).ctl.offColumn = s.ctl.offColumn ∧
    (countGood c s).depth = s.depth ∧ (countGood c s).travel = s.travel ∧ (countGood c s).tick = s.tick ∧
    (countGood c s).test = s.test ∧ (countGood c s).trace = s.trace ∧ (countGood c s).fwd = s.fwd ∧
    (countGood c s).portU.sent = s.portU.sent ∧ (countGood c s).portD = s.portD ∧
    (countGood c s).events.mask = s.events.mask ∧ (countGood c s).pending = s.pending ∧
    (countGood c s).choice = s.choice := by
  unfold countGood
  try dsimp only
  (repeat' split) <;> simp

@[simp] theorem judgeWindow_frame (c : BeamCode) (s : State) :
    (judgeWindow c s).now = s.now ∧ (judgeWindow c s).node = s.node ∧ (judgeWindow c s).params = s.params ∧
    (judgeWindow c s).lines = s.lines ∧ (judgeWindow c s).chain = s.chain ∧ (judgeWindow c s).tilt = s.tilt ∧
    (judgeWindow c s).store = s.store ∧ (judgeWindow c s).run = s.run ∧ (judgeWindow c s).ctl = s.ctl ∧
    (judgeWindow c s).depth = s.depth ∧ (judgeWindow c s).travel = s.travel ∧
    (judgeWindow c s).tick = s.tick ∧ (judgeWindow c s).test = s.test ∧ (judgeWindow c s).trace = s.trace ∧
    (judgeWindow c s).fwd = s.fwd ∧ (judgeWindow c s).portU.sent = s.portU.sent ∧
    (judgeWindow c s).portD = s.portD ∧ (judgeWindow c s).events.mask = s.events.mask ∧
    (judgeWindow c s).pending = s.pending ∧ (judgeWindow c s).choice = s.choice := by
  unfold judgeWindow
  try dsimp only
  (repeat' split) <;> simp

@[simp] theorem pairStrike_frame (c : BeamCode) (b : Int) (s : State) :
    (pairStrike c b s).now = s.now ∧ (pairStrike c b s).node = s.node ∧
    (pairStrike c b s).params = s.params ∧ (pairStrike c b s).lines = s.lines ∧
    (pairStrike c b s).chain = s.chain ∧ (pairStrike c b s).tilt = s.tilt ∧
    (pairStrike c b s).store = s.store ∧ (pairStrike c b s).run = s.run ∧ (pairStrike c b s).ctl = s.ctl ∧
    (pairStrike c b s).depth = s.depth ∧ (pairStrike c b s).travel = s.travel ∧
    (pairStrike c b s).tick = s.tick ∧ (pairStrike c b s).test = s.test ∧
    (pairStrike c b s).trace = s.trace ∧ (pairStrike c b s).fwd = s.fwd ∧
    (pairStrike c b s).portU.sent = s.portU.sent ∧ (pairStrike c b s).portD = s.portD ∧
    (pairStrike c b s).events.mask = s.events.mask ∧ (pairStrike c b s).pending = s.pending ∧
    (pairStrike c b s).choice = s.choice := by
  unfold pairStrike
  try dsimp only
  (repeat' split) <;> simp

@[simp] theorem beamTransition_frame (c : BeamCode) (r : StrikeResult) (s : State) :
    (beamTransition c r s).now = s.now ∧ (beamTransition c r s).node = s.node ∧
    (beamTransition c r s).params = s.params ∧ (beamTransition c r s).lines = s.lines ∧
    (beamTransition c r s).chain = s.chain ∧ (beamTransition c r s).tilt = s.tilt ∧
    (beamTransition c r s).store = s.store ∧ (beamTransition c r s).run = s.run ∧
    (beamTransition c r s).ctl.prior = s.ctl.prior ∧ (beamTransition c r s).depth = s.depth ∧
    (beamTransition c r s).travel = s.travel ∧ (beamTransition c r s).tick = s.tick ∧
    (beamTransition c r s).test = s.test ∧ (beamTransition c r s).trace = s.trace ∧
    (beamTransition c r s).fwd = s.fwd ∧ (beamTransition c r s).portU.sent = s.portU.sent ∧
    (beamTransition c r s).portD.depthSlot = s.portD.depthSlot ∧
    (beamTransition c r s).portD.travelSlot = s.portD.travelSlot ∧
    (beamTransition c r s).portD.sent = s.portD.sent ∧ (beamTransition c r s).events.mask = s.events.mask ∧
    (beamTransition c r s).pending = s.pending ∧ (beamTransition c r s).choice = s.choice := by
  unfold beamTransition
  try dsimp only
  (repeat' split) <;> simp

@[simp] theorem handReferenceStrike_frame (c : BeamCode) (r : StrikeResult) (s : State) :
    (handReferenceStrike c r s).now = s.now ∧ (handReferenceStrike c r s).node = s.node ∧
    (handReferenceStrike c r s).params = s.params ∧ (handReferenceStrike c r s).lines = s.lines ∧
    (handReferenceStrike c r s).chain = s.chain ∧ (handReferenceStrike c r s).beams = s.beams ∧
    (handReferenceStrike c r s).tilt = s.tilt ∧ (handReferenceStrike c r s).store = s.store ∧
    (handReferenceStrike c r s).run = s.run ∧ (handReferenceStrike c r s).ctl.state = s.ctl.state ∧
    (handReferenceStrike c r s).ctl.prior = s.ctl.prior ∧ (handReferenceStrike c r s).tick = s.tick ∧
    (handReferenceStrike c r s).test = s.test ∧ (handReferenceStrike c r s).trace = s.trace ∧
    (handReferenceStrike c r s).fwd = s.fwd ∧ (handReferenceStrike c r s).portU.sent = s.portU.sent ∧
    (handReferenceStrike c r s).portD.queue = s.portD.queue ∧
    (handReferenceStrike c r s).portD.sent = s.portD.sent ∧
    (handReferenceStrike c r s).events.mask = s.events.mask ∧
    (handReferenceStrike c r s).pending = s.pending ∧ (handReferenceStrike c r s).choice = s.choice := by
  unfold handReferenceStrike
  try dsimp only
  (repeat' split) <;> simp

@[simp] theorem handTestStrike_frame (c : BeamCode) (r : StrikeResult) (s : State) :
    (handTestStrike c r s).now = s.now ∧ (handTestStrike c r s).node = s.node ∧
    (handTestStrike c r s).params = s.params ∧ (handTestStrike c r s).lines = s.lines ∧
    (handTestStrike c r s).chain = s.chain ∧ (handTestStrike c r s).beams = s.beams ∧
    (handTestStrike c r s).tilt = s.tilt ∧ (handTestStrike c r s).store = s.store ∧
    (handTestStrike c r s).run = s.run ∧ (handTestStrike c r s).tick = s.tick ∧
    (handTestStrike c r s).trace = s.trace ∧ (handTestStrike c r s).fwd = s.fwd ∧
    (handTestStrike c r s).portU.sent = s.portU.sent ∧ (handTestStrike c r s).portD.queue = s.portD.queue ∧
    (handTestStrike c r s).portD.sent = s.portD.sent ∧ (handTestStrike c r s).events.mask = s.events.mask ∧
    (handTestStrike c r s).pending = s.pending ∧ (handTestStrike c r s).choice = s.choice := by
  unfold handTestStrike
  split <;> (try split) <;> simp

@[simp] theorem loseBeam_frame (c : BeamCode) (s : State) :
    (loseBeam c s).now = s.now ∧ (loseBeam c s).node = s.node ∧ (loseBeam c s).params = s.params ∧
    (loseBeam c s).lines = s.lines ∧ (loseBeam c s).chain = s.chain ∧ (loseBeam c s).tilt = s.tilt ∧
    (loseBeam c s).store = s.store ∧ (loseBeam c s).run = s.run ∧ (loseBeam c s).tick = s.tick ∧
    (loseBeam c s).trace = s.trace ∧ (loseBeam c s).fwd = s.fwd ∧ (loseBeam c s).portU.sent = s.portU.sent ∧
    (loseBeam c s).portD.queue = s.portD.queue ∧ (loseBeam c s).portD.sent = s.portD.sent ∧
    (loseBeam c s).events.mask = s.events.mask ∧ (loseBeam c s).pending = s.pending ∧
    (loseBeam c s).choice = s.choice := by
  unfold loseBeam
  try dsimp only
  (repeat' split) <;> simp

@[simp] theorem strikeTimeout_frame (c : BeamCode) (s : State) :
    (strikeTimeout c s).now = s.now ∧ (strikeTimeout c s).node = s.node ∧
    (strikeTimeout c s).params = s.params ∧ (strikeTimeout c s).lines = s.lines ∧
    (strikeTimeout c s).chain = s.chain ∧ (strikeTimeout c s).tilt = s.tilt ∧
    (strikeTimeout c s).store = s.store ∧ (strikeTimeout c s).run = s.run ∧
    (strikeTimeout c s).tick = s.tick ∧ (strikeTimeout c s).trace = s.trace ∧
    (strikeTimeout c s).fwd = s.fwd ∧ (strikeTimeout c s).portU.sent = s.portU.sent ∧
    (strikeTimeout c s).portD.queue = s.portD.queue ∧ (strikeTimeout c s).portD.sent = s.portD.sent ∧
    (strikeTimeout c s).events.mask = s.events.mask ∧ (strikeTimeout c s).pending = s.pending ∧
    (strikeTimeout c s).choice = s.choice := by
  unfold strikeTimeout
  try dsimp only
  (repeat' split) <;> simp

@[simp] theorem fadeReference_frame (c : BeamCode) (s : State) :
    (fadeReference c s).now = s.now ∧ (fadeReference c s).node = s.node ∧
    (fadeReference c s).params = s.params ∧ (fadeReference c s).lines = s.lines ∧
    (fadeReference c s).chain.s = s.chain.s ∧ (fadeReference c s).chain.r = s.chain.r ∧
    (fadeReference c s).chain.h = s.chain.h ∧ (fadeReference c s).chain.n = s.chain.n ∧
    (fadeReference c s).tilt = s.tilt ∧ (fadeReference c s).store = s.store ∧
    (fadeReference c s).run = s.run ∧ (fadeReference c s).ctl.prior = s.ctl.prior ∧
    (fadeReference c s).tick = s.tick ∧ (fadeReference c s).test = s.test ∧
    (fadeReference c s).trace = s.trace ∧ (fadeReference c s).fwd = s.fwd ∧
    (fadeReference c s).portU.sent = s.portU.sent ∧ (fadeReference c s).portD.queue = s.portD.queue ∧
    (fadeReference c s).portD.sent = s.portD.sent ∧ (fadeReference c s).events.mask = s.events.mask ∧
    (fadeReference c s).pending = s.pending ∧ (fadeReference c s).choice = s.choice := by
  simp [fadeReference]

@[simp] theorem takeOver_frame (c : BeamCode) (s : State) :
    (takeOver c s).now = s.now ∧ (takeOver c s).node = s.node ∧ (takeOver c s).params = s.params ∧
    (takeOver c s).lines = s.lines ∧ (takeOver c s).chain = s.chain ∧ (takeOver c s).tilt = s.tilt ∧
    (takeOver c s).store = s.store ∧ (takeOver c s).run = s.run ∧ (takeOver c s).ctl = s.ctl ∧
    (takeOver c s).depth = s.depth ∧ (takeOver c s).travel = s.travel ∧ (takeOver c s).tick = s.tick ∧
    (takeOver c s).test = s.test ∧ (takeOver c s).trace = s.trace ∧ (takeOver c s).fwd = s.fwd ∧
    (takeOver c s).portU.sent = s.portU.sent ∧ (takeOver c s).portD = s.portD ∧
    (takeOver c s).events.mask = s.events.mask ∧ (takeOver c s).pending = s.pending ∧
    (takeOver c s).choice = s.choice := by
  simp [takeOver]

@[simp] theorem loseReference_frame (c : BeamCode) (s : State) :
    (loseReference c s).now = s.now ∧ (loseReference c s).node = s.node ∧
    (loseReference c s).params = s.params ∧ (loseReference c s).lines = s.lines ∧
    (loseReference c s).chain = s.chain ∧ (loseReference c s).tilt = s.tilt ∧
    (loseReference c s).store = s.store ∧ (loseReference c s).run = s.run ∧
    (loseReference c s).tick = s.tick ∧ (loseReference c s).trace = s.trace ∧
    (loseReference c s).fwd = s.fwd ∧ (loseReference c s).portU.sent = s.portU.sent ∧
    (loseReference c s).portD.sent = s.portD.sent ∧ (loseReference c s).events.mask = s.events.mask ∧
    (loseReference c s).pending = s.pending ∧ (loseReference c s).choice = s.choice := by
  unfold loseReference
  try dsimp only
  (repeat' split) <;> simp

@[simp] theorem referenceTimeout_frame (s : State) :
    (referenceTimeout s).now = s.now ∧ (referenceTimeout s).node = s.node ∧
    (referenceTimeout s).params = s.params ∧ (referenceTimeout s).lines = s.lines ∧
    (referenceTimeout s).chain.s = s.chain.s ∧ (referenceTimeout s).chain.r = s.chain.r ∧
    (referenceTimeout s).chain.h = s.chain.h ∧ (referenceTimeout s).chain.n = s.chain.n ∧
    (referenceTimeout s).tilt = s.tilt ∧ (referenceTimeout s).store = s.store ∧
    (referenceTimeout s).run = s.run ∧ (referenceTimeout s).ctl.prior = s.ctl.prior ∧
    (referenceTimeout s).tick = s.tick ∧ (referenceTimeout s).test = s.test ∧
    (referenceTimeout s).trace = s.trace ∧ (referenceTimeout s).fwd = s.fwd ∧
    (referenceTimeout s).portU.sent = s.portU.sent ∧ (referenceTimeout s).portD.queue = s.portD.queue ∧
    (referenceTimeout s).portD.sent = s.portD.sent ∧ (referenceTimeout s).events.mask = s.events.mask ∧
    (referenceTimeout s).pending = s.pending ∧ (referenceTimeout s).choice = s.choice := by
  unfold referenceTimeout
  try dsimp only
  (repeat' split) <;> simp

@[simp] theorem fadingTimeout_frame (s : State) :
    (fadingTimeout s).now = s.now ∧ (fadingTimeout s).node = s.node ∧ (fadingTimeout s).params = s.params ∧
    (fadingTimeout s).lines = s.lines ∧ (fadingTimeout s).chain = s.chain ∧ (fadingTimeout s).tilt = s.tilt ∧
    (fadingTimeout s).store = s.store ∧ (fadingTimeout s).run = s.run ∧ (fadingTimeout s).tick = s.tick ∧
    (fadingTimeout s).trace = s.trace ∧ (fadingTimeout s).fwd = s.fwd ∧
    (fadingTimeout s).portU.sent = s.portU.sent ∧ (fadingTimeout s).portD.sent = s.portD.sent ∧
    (fadingTimeout s).events.mask = s.events.mask ∧ (fadingTimeout s).pending = s.pending ∧
    (fadingTimeout s).choice = s.choice := by
  unfold fadingTimeout
  try dsimp only
  (repeat' split) <;> simp

@[simp] theorem takeTilt_frame (z : Int) (s : State) :
    (takeTilt z s).now = s.now ∧ (takeTilt z s).node = s.node ∧ (takeTilt z s).params = s.params ∧
    (takeTilt z s).lines = s.lines ∧ (takeTilt z s).chain = s.chain ∧ (takeTilt z s).beams = s.beams ∧
    (takeTilt z s).store = s.store ∧ (takeTilt z s).run = s.run ∧ (takeTilt z s).ctl = s.ctl ∧
    (takeTilt z s).depth = s.depth ∧ (takeTilt z s).travel = s.travel ∧ (takeTilt z s).tick = s.tick ∧
    (takeTilt z s).test = s.test ∧ (takeTilt z s).trace = s.trace ∧ (takeTilt z s).fwd = s.fwd ∧
    (takeTilt z s).portU.sent = s.portU.sent ∧ (takeTilt z s).portD = s.portD ∧
    (takeTilt z s).events.mask = s.events.mask ∧ (takeTilt z s).pending = s.pending ∧
    (takeTilt z s).choice = s.choice := by
  unfold takeTilt
  try dsimp only
  (repeat' split) <;> simp

@[simp] theorem tiltExpiry_frame (s : State) :
    (tiltExpiry s).now = s.now ∧ (tiltExpiry s).node = s.node ∧ (tiltExpiry s).params = s.params ∧
    (tiltExpiry s).lines = s.lines ∧ (tiltExpiry s).chain = s.chain ∧ (tiltExpiry s).beams = s.beams ∧
    (tiltExpiry s).tilt.theta = s.tilt.theta ∧ (tiltExpiry s).tilt.arrival = s.tilt.arrival ∧
    (tiltExpiry s).store = s.store ∧ (tiltExpiry s).run = s.run ∧ (tiltExpiry s).ctl = s.ctl ∧
    (tiltExpiry s).depth = s.depth ∧ (tiltExpiry s).travel = s.travel ∧ (tiltExpiry s).tick = s.tick ∧
    (tiltExpiry s).test = s.test ∧ (tiltExpiry s).trace = s.trace ∧ (tiltExpiry s).fwd = s.fwd ∧
    (tiltExpiry s).portU.sent = s.portU.sent ∧ (tiltExpiry s).portD = s.portD ∧
    (tiltExpiry s).events.mask = s.events.mask ∧ (tiltExpiry s).pending = s.pending ∧
    (tiltExpiry s).choice = s.choice := by
  unfold tiltExpiry
  try dsimp only
  (repeat' split) <;> simp

@[simp] theorem judgeTilt_frame (s : State) :
    (judgeTilt s).now = s.now ∧ (judgeTilt s).node = s.node ∧ (judgeTilt s).params = s.params ∧
    (judgeTilt s).lines = s.lines ∧ (judgeTilt s).chain = s.chain ∧ (judgeTilt s).beams = s.beams ∧
    (judgeTilt s).tilt.theta = s.tilt.theta ∧ (judgeTilt s).tilt.arrival = s.tilt.arrival ∧
    (judgeTilt s).store = s.store ∧ (judgeTilt s).run = s.run ∧ (judgeTilt s).ctl = s.ctl ∧
    (judgeTilt s).depth = s.depth ∧ (judgeTilt s).travel = s.travel ∧ (judgeTilt s).tick = s.tick ∧
    (judgeTilt s).test = s.test ∧ (judgeTilt s).trace = s.trace ∧ (judgeTilt s).fwd = s.fwd ∧
    (judgeTilt s).portU.sent = s.portU.sent ∧ (judgeTilt s).portD = s.portD ∧
    (judgeTilt s).events.mask = s.events.mask ∧ (judgeTilt s).pending = s.pending ∧
    (judgeTilt s).choice = s.choice := by
  unfold judgeTilt
  try dsimp only
  (repeat' split) <;> simp

@[simp] theorem moveEdge_frame (w : Bool) (s : State) :
    (moveEdge w s).now = s.now ∧ (moveEdge w s).node = s.node ∧ (moveEdge w s).params = s.params ∧
    (moveEdge w s).lines = s.lines ∧ (moveEdge w s).chain.h = s.chain.h ∧
    (moveEdge w s).chain.dH = s.chain.dH ∧ (moveEdge w s).beams = s.beams ∧ (moveEdge w s).tilt = s.tilt ∧
    (moveEdge w s).store = s.store ∧ (moveEdge w s).run = s.run ∧ (moveEdge w s).ctl = s.ctl ∧
    (moveEdge w s).depth = s.depth ∧ (moveEdge w s).travel = s.travel ∧ (moveEdge w s).tick = s.tick ∧
    (moveEdge w s).test = s.test ∧ (moveEdge w s).trace = s.trace ∧ (moveEdge w s).fwd = s.fwd ∧
    (moveEdge w s).portU.sent = s.portU.sent ∧ (moveEdge w s).portD = s.portD ∧
    (moveEdge w s).events.mask = s.events.mask ∧ (moveEdge w s).pending = s.pending ∧
    (moveEdge w s).choice = s.choice := by
  unfold moveEdge
  try dsimp only
  (repeat' split) <;> simp

@[simp] theorem checkTakeover_frame (s : State) :
    (checkTakeover s).now = s.now ∧ (checkTakeover s).node = s.node ∧ (checkTakeover s).params = s.params ∧
    (checkTakeover s).lines = s.lines ∧ (checkTakeover s).chain = s.chain ∧
    (checkTakeover s).beams = s.beams ∧ (checkTakeover s).tilt = s.tilt ∧
    (checkTakeover s).store.session = s.store.session ∧ (checkTakeover s).store.shared = s.store.shared ∧
    (checkTakeover s).store.tiltTable = s.store.tiltTable ∧
    (checkTakeover s).store.raiseMap = s.store.raiseMap ∧
    (checkTakeover s).store.lowerMap = s.store.lowerMap ∧ (checkTakeover s).run = s.run ∧
    (checkTakeover s).ctl = s.ctl ∧ (checkTakeover s).depth = s.depth ∧ (checkTakeover s).travel = s.travel ∧
    (checkTakeover s).tick = s.tick ∧ (checkTakeover s).test = s.test ∧ (checkTakeover s).trace = s.trace ∧
    (checkTakeover s).fwd = s.fwd ∧ (checkTakeover s).portU.sent = s.portU.sent ∧
    (checkTakeover s).portD = s.portD ∧ (checkTakeover s).events.mask = s.events.mask ∧
    (checkTakeover s).pending = s.pending ∧ (checkTakeover s).choice = s.choice := by
  unfold checkTakeover
  try dsimp only
  (repeat' split) <;> simp

@[simp] theorem crossBoundaries_frame (n : Nat) (s : State) :
    (crossBoundaries n s).now = s.now ∧ (crossBoundaries n s).node = s.node ∧
    (crossBoundaries n s).params = s.params ∧ (crossBoundaries n s).lines = s.lines ∧
    (crossBoundaries n s).chain = s.chain ∧ (crossBoundaries n s).beams = s.beams ∧
    (crossBoundaries n s).tilt = s.tilt ∧ (crossBoundaries n s).store = s.store ∧
    (crossBoundaries n s).run = s.run ∧ (crossBoundaries n s).ctl = s.ctl ∧
    (crossBoundaries n s).depth = s.depth ∧ (crossBoundaries n s).travel = s.travel ∧
    (crossBoundaries n s).tick = s.tick ∧ (crossBoundaries n s).test = s.test ∧
    (crossBoundaries n s).trace.mark = s.trace.mark ∧
    (crossBoundaries n s).trace.gateOpen = s.trace.gateOpen ∧ (crossBoundaries n s).fwd = s.fwd ∧
    (crossBoundaries n s).portU.sent = s.portU.sent ∧ (crossBoundaries n s).portD = s.portD ∧
    (crossBoundaries n s).events.mask = s.events.mask ∧ (crossBoundaries n s).pending = s.pending ∧
    (crossBoundaries n s).choice = s.choice := by
  unfold crossBoundaries
  generalize crossedBoundaries n s.chain.n s.params.traceStep = l
  induction l generalizing s with
  | nil => simp
  | cons c l ih =>
    rw [List.foldl_cons]
    simpa using ih (crossing (decide (c ≤ s.chain.h)) c s)

@[simp] theorem compareHoldDistance_frame (s : State) :
    (compareHoldDistance s).now = s.now ∧ (compareHoldDistance s).node = s.node ∧
    (compareHoldDistance s).params = s.params ∧ (compareHoldDistance s).lines = s.lines ∧
    (compareHoldDistance s).chain = s.chain ∧ (compareHoldDistance s).beams = s.beams ∧
    (compareHoldDistance s).tilt = s.tilt ∧ (compareHoldDistance s).store = s.store ∧
    (compareHoldDistance s).run = s.run ∧ (compareHoldDistance s).ctl.prior = s.ctl.prior ∧
    (compareHoldDistance s).tick = s.tick ∧ (compareHoldDistance s).test = s.test ∧
    (compareHoldDistance s).trace = s.trace ∧ (compareHoldDistance s).fwd = s.fwd ∧
    (compareHoldDistance s).portU.sent = s.portU.sent ∧ (compareHoldDistance s).portD.queue = s.portD.queue ∧
    (compareHoldDistance s).portD.sent = s.portD.sent ∧ (compareHoldDistance s).events.mask = s.events.mask ∧
    (compareHoldDistance s).pending = s.pending ∧ (compareHoldDistance s).choice = s.choice := by
  unfold compareHoldDistance
  try dsimp only
  (repeat' split) <;> simp

@[simp] theorem addHoldDistance_frame (m : Nat) (s : State) :
    (addHoldDistance m s).now = s.now ∧ (addHoldDistance m s).node = s.node ∧
    (addHoldDistance m s).params = s.params ∧ (addHoldDistance m s).lines = s.lines ∧
    (addHoldDistance m s).chain.s = s.chain.s ∧ (addHoldDistance m s).chain.r = s.chain.r ∧
    (addHoldDistance m s).chain.h = s.chain.h ∧ (addHoldDistance m s).chain.n = s.chain.n ∧
    (addHoldDistance m s).beams = s.beams ∧ (addHoldDistance m s).tilt = s.tilt ∧
    (addHoldDistance m s).store = s.store ∧ (addHoldDistance m s).run = s.run ∧
    (addHoldDistance m s).ctl.prior = s.ctl.prior ∧ (addHoldDistance m s).tick = s.tick ∧
    (addHoldDistance m s).test = s.test ∧ (addHoldDistance m s).trace = s.trace ∧
    (addHoldDistance m s).fwd = s.fwd ∧ (addHoldDistance m s).portU.sent = s.portU.sent ∧
    (addHoldDistance m s).portD.queue = s.portD.queue ∧ (addHoldDistance m s).portD.sent = s.portD.sent ∧
    (addHoldDistance m s).events.mask = s.events.mask ∧ (addHoldDistance m s).pending = s.pending ∧
    (addHoldDistance m s).choice = s.choice := by
  unfold addHoldDistance
  try dsimp only
  (repeat' split) <;> simp

@[simp] theorem countEdge_frame (w : Bool) (s : State) :
    (countEdge w s).now = s.now ∧ (countEdge w s).node = s.node ∧ (countEdge w s).params = s.params ∧
    (countEdge w s).lines = s.lines ∧ (countEdge w s).beams = s.beams ∧ (countEdge w s).tilt = s.tilt ∧
    (countEdge w s).store.session = s.store.session ∧ (countEdge w s).store.shared = s.store.shared ∧
    (countEdge w s).store.tiltTable = s.store.tiltTable ∧ (countEdge w s).store.raiseMap = s.store.raiseMap ∧
    (countEdge w s).store.lowerMap = s.store.lowerMap ∧ (countEdge w s).run = s.run ∧
    (countEdge w s).ctl.prior = s.ctl.prior ∧ (countEdge w s).tick = s.tick ∧ (countEdge w s).test = s.test ∧
    (countEdge w s).trace.mark = s.trace.mark ∧ (countEdge w s).trace.gateOpen = s.trace.gateOpen ∧
    (countEdge w s).fwd = s.fwd ∧ (countEdge w s).portU.sent = s.portU.sent ∧
    (countEdge w s).portD.queue = s.portD.queue ∧ (countEdge w s).portD.sent = s.portD.sent ∧
    (countEdge w s).events.mask = s.events.mask ∧ (countEdge w s).pending = s.pending ∧
    (countEdge w s).choice = s.choice := by
  unfold countEdge
  try dsimp only
  (repeat' split) <;> simp

@[simp] theorem odoEdge_frame (w : Bool) (s : State) :
    (odoEdge w s).now = s.now ∧ (odoEdge w s).node = s.node ∧ (odoEdge w s).params = s.params ∧
    (odoEdge w s).lines = s.lines ∧ (odoEdge w s).beams = s.beams ∧ (odoEdge w s).tilt = s.tilt ∧
    (odoEdge w s).store.session = s.store.session ∧ (odoEdge w s).store.shared = s.store.shared ∧
    (odoEdge w s).store.tiltTable = s.store.tiltTable ∧ (odoEdge w s).store.raiseMap = s.store.raiseMap ∧
    (odoEdge w s).store.lowerMap = s.store.lowerMap ∧ (odoEdge w s).run = s.run ∧
    (odoEdge w s).tick = s.tick ∧ (odoEdge w s).trace.mark = s.trace.mark ∧
    (odoEdge w s).trace.gateOpen = s.trace.gateOpen ∧ (odoEdge w s).fwd = s.fwd ∧
    (odoEdge w s).portU.sent = s.portU.sent ∧ (odoEdge w s).portD.queue = s.portD.queue ∧
    (odoEdge w s).portD.sent = s.portD.sent ∧ (odoEdge w s).events.mask = s.events.mask ∧
    (odoEdge w s).pending = s.pending ∧ (odoEdge w s).choice = s.choice := by
  unfold odoEdge
  try dsimp only
  (repeat' split) <;> simp

@[simp] theorem decayHeld_frame (s : State) :
    (decayHeld s).now = s.now ∧ (decayHeld s).node = s.node ∧ (decayHeld s).params = s.params ∧
    (decayHeld s).lines = s.lines ∧ (decayHeld s).chain = s.chain ∧ (decayHeld s).beams = s.beams ∧
    (decayHeld s).tilt = s.tilt ∧ (decayHeld s).store = s.store ∧ (decayHeld s).run = s.run ∧
    (decayHeld s).ctl.state = s.ctl.state ∧ (decayHeld s).ctl.prior = s.ctl.prior ∧
    (decayHeld s).ctl.offColumn = s.ctl.offColumn ∧ (decayHeld s).depth.waiting = s.depth.waiting ∧
    (decayHeld s).depth.fresh = s.depth.fresh ∧ (decayHeld s).depth.emitted = s.depth.emitted ∧
    (decayHeld s).depth.last = s.depth.last ∧ (decayHeld s).depth.lastRaise = s.depth.lastRaise ∧
    (decayHeld s).depth.lastLower = s.depth.lastLower ∧ (decayHeld s).depth.seq = s.depth.seq ∧
    (decayHeld s).travel = s.travel ∧ (decayHeld s).tick = s.tick ∧ (decayHeld s).test = s.test ∧
    (decayHeld s).trace = s.trace ∧ (decayHeld s).fwd = s.fwd ∧ (decayHeld s).portU.sent = s.portU.sent ∧
    (decayHeld s).portD = s.portD ∧ (decayHeld s).events.mask = s.events.mask ∧
    (decayHeld s).pending = s.pending ∧ (decayHeld s).choice = s.choice := by
  unfold decayHeld
  try dsimp only
  (repeat' split) <;> simp

@[simp] theorem staleDepth_frame (s : State) :
    (staleDepth s).now = s.now ∧ (staleDepth s).node = s.node ∧ (staleDepth s).params = s.params ∧
    (staleDepth s).lines = s.lines ∧ (staleDepth s).chain = s.chain ∧ (staleDepth s).beams = s.beams ∧
    (staleDepth s).tilt = s.tilt ∧ (staleDepth s).store = s.store ∧ (staleDepth s).run = s.run ∧
    (staleDepth s).ctl.state = s.ctl.state ∧ (staleDepth s).ctl.prior = s.ctl.prior ∧
    (staleDepth s).ctl.offColumn = s.ctl.offColumn ∧ (staleDepth s).depth.waiting = s.depth.waiting ∧
    (staleDepth s).depth.fresh = s.depth.fresh ∧ (staleDepth s).travel = s.travel ∧
    (staleDepth s).tick = s.tick ∧ (staleDepth s).test = s.test ∧ (staleDepth s).trace = s.trace ∧
    (staleDepth s).fwd = s.fwd ∧ (staleDepth s).portU.sent = s.portU.sent ∧
    (staleDepth s).portD.queue = s.portD.queue ∧ (staleDepth s).portD.travelSlot = s.portD.travelSlot ∧
    (staleDepth s).portD.sent = s.portD.sent ∧ (staleDepth s).events.mask = s.events.mask ∧
    (staleDepth s).pending = s.pending ∧ (staleDepth s).choice = s.choice := by
  unfold staleDepth
  try dsimp only
  (repeat' split) <;> simp

@[simp] theorem takeDepth_frame (s : State) :
    (takeDepth s).now = s.now ∧ (takeDepth s).node = s.node ∧ (takeDepth s).params = s.params ∧
    (takeDepth s).lines = s.lines ∧ (takeDepth s).chain = s.chain ∧ (takeDepth s).beams = s.beams ∧
    (takeDepth s).tilt = s.tilt ∧ (takeDepth s).store = s.store ∧ (takeDepth s).run = s.run ∧
    (takeDepth s).ctl.state = s.ctl.state ∧ (takeDepth s).ctl.prior = s.ctl.prior ∧
    (takeDepth s).ctl.offColumn = s.ctl.offColumn ∧ (takeDepth s).travel = s.travel ∧
    (takeDepth s).tick = s.tick ∧ (takeDepth s).test = s.test ∧ (takeDepth s).trace = s.trace ∧
    (takeDepth s).fwd = s.fwd ∧ (takeDepth s).portU = s.portU ∧ (takeDepth s).portD.queue = s.portD.queue ∧
    (takeDepth s).portD.travelSlot = s.portD.travelSlot ∧ (takeDepth s).portD.sent = s.portD.sent ∧
    (takeDepth s).events = s.events ∧ (takeDepth s).counters = s.counters ∧
    (takeDepth s).pending = s.pending ∧ (takeDepth s).choice = s.choice := by
  simp [takeDepth]

@[simp] theorem depthAtTick_frame (s : State) :
    (depthAtTick s).now = s.now ∧ (depthAtTick s).node = s.node ∧ (depthAtTick s).params = s.params ∧
    (depthAtTick s).lines = s.lines ∧ (depthAtTick s).chain = s.chain ∧ (depthAtTick s).beams = s.beams ∧
    (depthAtTick s).tilt = s.tilt ∧ (depthAtTick s).store = s.store ∧ (depthAtTick s).run = s.run ∧
    (depthAtTick s).ctl.state = s.ctl.state ∧ (depthAtTick s).ctl.prior = s.ctl.prior ∧
    (depthAtTick s).ctl.offColumn = s.ctl.offColumn ∧ (depthAtTick s).travel = s.travel ∧
    (depthAtTick s).tick = s.tick ∧ (depthAtTick s).test = s.test ∧ (depthAtTick s).trace = s.trace ∧
    (depthAtTick s).fwd = s.fwd ∧ (depthAtTick s).portU.sent = s.portU.sent ∧
    (depthAtTick s).portD.queue = s.portD.queue ∧ (depthAtTick s).portD.travelSlot = s.portD.travelSlot ∧
    (depthAtTick s).portD.sent = s.portD.sent ∧ (depthAtTick s).events.mask = s.events.mask ∧
    (depthAtTick s).pending = s.pending ∧ (depthAtTick s).choice = s.choice := by
  unfold depthAtTick
  try dsimp only
  (repeat' split) <;> simp

@[simp] theorem depthTick_frame (s : State) :
    (depthTick s).now = s.now ∧ (depthTick s).node = s.node ∧ (depthTick s).params = s.params ∧
    (depthTick s).lines = s.lines ∧ (depthTick s).chain = s.chain ∧ (depthTick s).beams = s.beams ∧
    (depthTick s).tilt = s.tilt ∧ (depthTick s).store = s.store ∧ (depthTick s).run = s.run ∧
    (depthTick s).ctl.state = s.ctl.state ∧ (depthTick s).ctl.prior = s.ctl.prior ∧
    (depthTick s).ctl.offColumn = s.ctl.offColumn ∧ (depthTick s).travel = s.travel ∧
    (depthTick s).tick = s.tick ∧ (depthTick s).test = s.test ∧ (depthTick s).trace = s.trace ∧
    (depthTick s).fwd = s.fwd ∧ (depthTick s).portU.sent = s.portU.sent ∧
    (depthTick s).portD.queue = s.portD.queue ∧ (depthTick s).portD.travelSlot = s.portD.travelSlot ∧
    (depthTick s).portD.sent = s.portD.sent ∧ (depthTick s).events.mask = s.events.mask ∧
    (depthTick s).pending = s.pending ∧ (depthTick s).choice = s.choice := by
  simp [depthTick]

@[simp] theorem staleTravel_frame (s : State) :
    (staleTravel s).now = s.now ∧ (staleTravel s).node = s.node ∧ (staleTravel s).params = s.params ∧
    (staleTravel s).lines = s.lines ∧ (staleTravel s).chain = s.chain ∧ (staleTravel s).beams = s.beams ∧
    (staleTravel s).tilt = s.tilt ∧ (staleTravel s).store = s.store ∧ (staleTravel s).run = s.run ∧
    (staleTravel s).ctl = s.ctl ∧ (staleTravel s).depth = s.depth ∧
    (staleTravel s).travel.waiting = s.travel.waiting ∧ (staleTravel s).travel.fresh = s.travel.fresh ∧
    (staleTravel s).tick = s.tick ∧ (staleTravel s).test = s.test ∧ (staleTravel s).trace = s.trace ∧
    (staleTravel s).fwd = s.fwd ∧ (staleTravel s).portU = s.portU ∧
    (staleTravel s).portD.queue = s.portD.queue ∧ (staleTravel s).portD.depthSlot = s.portD.depthSlot ∧
    (staleTravel s).portD.sent = s.portD.sent ∧ (staleTravel s).events = s.events ∧
    (staleTravel s).pending = s.pending ∧ (staleTravel s).choice = s.choice := by
  unfold staleTravel
  try dsimp only
  (repeat' split) <;> simp

@[simp] theorem takeTravel_frame (s : State) :
    (takeTravel s).now = s.now ∧ (takeTravel s).node = s.node ∧ (takeTravel s).params = s.params ∧
    (takeTravel s).lines = s.lines ∧ (takeTravel s).chain = s.chain ∧ (takeTravel s).beams = s.beams ∧
    (takeTravel s).tilt = s.tilt ∧ (takeTravel s).store = s.store ∧ (takeTravel s).run = s.run ∧
    (takeTravel s).ctl = s.ctl ∧ (takeTravel s).depth = s.depth ∧ (takeTravel s).tick = s.tick ∧
    (takeTravel s).test = s.test ∧ (takeTravel s).trace = s.trace ∧ (takeTravel s).fwd = s.fwd ∧
    (takeTravel s).portU = s.portU ∧ (takeTravel s).portD.queue = s.portD.queue ∧
    (takeTravel s).portD.depthSlot = s.portD.depthSlot ∧ (takeTravel s).portD.sent = s.portD.sent ∧
    (takeTravel s).events = s.events ∧ (takeTravel s).counters = s.counters ∧
    (takeTravel s).pending = s.pending ∧ (takeTravel s).choice = s.choice := by
  simp [takeTravel]

@[simp] theorem travelAtTick_frame (s : State) :
    (travelAtTick s).now = s.now ∧ (travelAtTick s).node = s.node ∧ (travelAtTick s).params = s.params ∧
    (travelAtTick s).lines = s.lines ∧ (travelAtTick s).chain = s.chain ∧ (travelAtTick s).beams = s.beams ∧
    (travelAtTick s).tilt = s.tilt ∧ (travelAtTick s).store = s.store ∧ (travelAtTick s).run = s.run ∧
    (travelAtTick s).ctl = s.ctl ∧ (travelAtTick s).depth = s.depth ∧ (travelAtTick s).tick = s.tick ∧
    (travelAtTick s).test = s.test ∧ (travelAtTick s).trace = s.trace ∧ (travelAtTick s).fwd = s.fwd ∧
    (travelAtTick s).portU = s.portU ∧ (travelAtTick s).portD.queue = s.portD.queue ∧
    (travelAtTick s).portD.depthSlot = s.portD.depthSlot ∧ (travelAtTick s).portD.sent = s.portD.sent ∧
    (travelAtTick s).events = s.events ∧ (travelAtTick s).pending = s.pending ∧
    (travelAtTick s).choice = s.choice := by
  unfold travelAtTick
  try dsimp only
  (repeat' split) <;> simp

@[simp] theorem travelTick_frame (s : State) :
    (travelTick s).now = s.now ∧ (travelTick s).node = s.node ∧ (travelTick s).params = s.params ∧
    (travelTick s).lines = s.lines ∧ (travelTick s).chain = s.chain ∧ (travelTick s).beams = s.beams ∧
    (travelTick s).tilt = s.tilt ∧ (travelTick s).store = s.store ∧ (travelTick s).run = s.run ∧
    (travelTick s).ctl = s.ctl ∧ (travelTick s).depth = s.depth ∧ (travelTick s).tick = s.tick ∧
    (travelTick s).test = s.test ∧ (travelTick s).trace = s.trace ∧ (travelTick s).fwd = s.fwd ∧
    (travelTick s).portU = s.portU ∧ (travelTick s).portD.queue = s.portD.queue ∧
    (travelTick s).portD.depthSlot = s.portD.depthSlot ∧ (travelTick s).portD.sent = s.portD.sent ∧
    (travelTick s).events = s.events ∧ (travelTick s).pending = s.pending ∧ (travelTick s).choice = s.choice := by
  simp [travelTick]

@[simp] theorem deliverTick_frame (s : State) :
    (deliverTick s).now = s.now ∧ (deliverTick s).node = s.node ∧ (deliverTick s).params = s.params ∧
    (deliverTick s).lines = s.lines ∧ (deliverTick s).chain = s.chain ∧ (deliverTick s).beams = s.beams ∧
    (deliverTick s).tilt = s.tilt ∧ (deliverTick s).store = s.store ∧ (deliverTick s).run = s.run ∧
    (deliverTick s).ctl.state = s.ctl.state ∧ (deliverTick s).ctl.prior = s.ctl.prior ∧
    (deliverTick s).ctl.offColumn = s.ctl.offColumn ∧ (deliverTick s).tick = s.tick ∧
    (deliverTick s).test = s.test ∧ (deliverTick s).trace.tail = s.trace.tail ∧
    (deliverTick s).trace.mark = s.trace.mark ∧ (deliverTick s).trace.seqNo = s.trace.seqNo ∧
    (deliverTick s).trace.gateOpen = s.trace.gateOpen ∧ (deliverTick s).fwd = s.fwd ∧
    (deliverTick s).portU.sent = s.portU.sent ∧ (deliverTick s).portD.queue = s.portD.queue ∧
    (deliverTick s).portD.sent = s.portD.sent ∧ (deliverTick s).events.mask = s.events.mask ∧
    (deliverTick s).pending = s.pending ∧ (deliverTick s).choice = s.choice := by
  simp [deliverTick]

@[simp] theorem outputTick_frame (s : State) :
    (outputTick s).now = s.now ∧ (outputTick s).node = s.node ∧ (outputTick s).params = s.params ∧
    (outputTick s).lines = s.lines ∧ (outputTick s).chain = s.chain ∧ (outputTick s).beams = s.beams ∧
    (outputTick s).tilt = s.tilt ∧ (outputTick s).store = s.store ∧ (outputTick s).run = s.run ∧
    (outputTick s).ctl.state = s.ctl.state ∧ (outputTick s).ctl.prior = s.ctl.prior ∧
    (outputTick s).ctl.offColumn = s.ctl.offColumn ∧ (outputTick s).tick.mode = s.tick.mode ∧
    (outputTick s).tick.syncSince = s.tick.syncSince ∧ (outputTick s).test = s.test ∧
    (outputTick s).trace.tail = s.trace.tail ∧ (outputTick s).trace.mark = s.trace.mark ∧
    (outputTick s).trace.seqNo = s.trace.seqNo ∧ (outputTick s).trace.gateOpen = s.trace.gateOpen ∧
    (outputTick s).fwd = s.fwd ∧ (outputTick s).portU.sent = s.portU.sent ∧
    (outputTick s).portD.queue = s.portD.queue ∧ (outputTick s).portD.sent = s.portD.sent ∧
    (outputTick s).events.mask = s.events.mask ∧ (outputTick s).pending = s.pending ∧
    (outputTick s).choice = s.choice := by
  unfold outputTick
  try dsimp only
  (repeat' split) <;> simp

@[simp] theorem takeSync_frame (s : State) :
    (takeSync s).now = s.now ∧ (takeSync s).node = s.node ∧ (takeSync s).params = s.params ∧
    (takeSync s).lines = s.lines ∧ (takeSync s).chain = s.chain ∧ (takeSync s).beams = s.beams ∧
    (takeSync s).tilt = s.tilt ∧ (takeSync s).store = s.store ∧ (takeSync s).run = s.run ∧
    (takeSync s).ctl.state = s.ctl.state ∧ (takeSync s).ctl.prior = s.ctl.prior ∧
    (takeSync s).ctl.offColumn = s.ctl.offColumn ∧ (takeSync s).test = s.test ∧
    (takeSync s).trace.tail = s.trace.tail ∧ (takeSync s).trace.mark = s.trace.mark ∧
    (takeSync s).trace.seqNo = s.trace.seqNo ∧ (takeSync s).trace.gateOpen = s.trace.gateOpen ∧
    (takeSync s).fwd = s.fwd ∧ (takeSync s).portU.sent = s.portU.sent ∧
    (takeSync s).portD.queue = s.portD.queue ∧ (takeSync s).portD.sent = s.portD.sent ∧
    (takeSync s).events.mask = s.events.mask ∧ (takeSync s).pending = s.pending ∧
    (takeSync s).choice = s.choice := by
  unfold takeSync
  try dsimp only
  (repeat' split) <;> simp

@[simp] theorem syncTimeout_frame (s : State) :
    (syncTimeout s).now = s.now ∧ (syncTimeout s).node = s.node ∧ (syncTimeout s).params = s.params ∧
    (syncTimeout s).lines = s.lines ∧ (syncTimeout s).chain = s.chain ∧ (syncTimeout s).beams = s.beams ∧
    (syncTimeout s).tilt = s.tilt ∧ (syncTimeout s).store = s.store ∧ (syncTimeout s).run = s.run ∧
    (syncTimeout s).ctl.state = s.ctl.state ∧ (syncTimeout s).ctl.prior = s.ctl.prior ∧
    (syncTimeout s).ctl.offColumn = s.ctl.offColumn ∧ (syncTimeout s).tick.syncSince = s.tick.syncSince ∧
    (syncTimeout s).tick.owed = s.tick.owed ∧ (syncTimeout s).test = s.test ∧
    (syncTimeout s).trace.tail = s.trace.tail ∧ (syncTimeout s).trace.mark = s.trace.mark ∧
    (syncTimeout s).trace.seqNo = s.trace.seqNo ∧ (syncTimeout s).trace.gateOpen = s.trace.gateOpen ∧
    (syncTimeout s).fwd = s.fwd ∧ (syncTimeout s).portU.sent = s.portU.sent ∧
    (syncTimeout s).portD.queue = s.portD.queue ∧ (syncTimeout s).portD.sent = s.portD.sent ∧
    (syncTimeout s).events.mask = s.events.mask ∧ (syncTimeout s).pending = s.pending ∧
    (syncTimeout s).choice = s.choice := by
  unfold syncTimeout
  try dsimp only
  (repeat' split) <;> simp

@[simp] theorem writeStep_frame (t : TestRun) (i : Nat) (s : State) :
    (writeStep t i s).now = s.now ∧ (writeStep t i s).node = s.node ∧ (writeStep t i s).params = s.params ∧
    (writeStep t i s).lines = s.lines ∧ (writeStep t i s).chain = s.chain ∧
    (writeStep t i s).beams = s.beams ∧ (writeStep t i s).tilt = s.tilt ∧ (writeStep t i s).store = s.store ∧
    (writeStep t i s).run = s.run ∧ (writeStep t i s).ctl.state = s.ctl.state ∧
    (writeStep t i s).ctl.prior = s.ctl.prior ∧ (writeStep t i s).ctl.offColumn = s.ctl.offColumn ∧
    (writeStep t i s).travel = s.travel ∧ (writeStep t i s).tick = s.tick ∧
    (writeStep t i s).test.result = s.test.result ∧ (writeStep t i s).trace = s.trace ∧
    (writeStep t i s).fwd = s.fwd ∧ (writeStep t i s).portU = s.portU ∧
    (writeStep t i s).portD.queue = s.portD.queue ∧ (writeStep t i s).portD.travelSlot = s.portD.travelSlot ∧
    (writeStep t i s).portD.sent = s.portD.sent ∧ (writeStep t i s).events = s.events ∧
    (writeStep t i s).counters = s.counters ∧ (writeStep t i s).pending = s.pending ∧
    (writeStep t i s).choice = s.choice := by
  simp [writeStep]

@[simp] theorem firstStep_frame (s : State) :
    (firstStep s).now = s.now ∧ (firstStep s).node = s.node ∧ (firstStep s).params = s.params ∧
    (firstStep s).lines = s.lines ∧ (firstStep s).chain = s.chain ∧ (firstStep s).beams = s.beams ∧
    (firstStep s).tilt = s.tilt ∧ (firstStep s).store = s.store ∧ (firstStep s).run = s.run ∧
    (firstStep s).tick = s.tick ∧ (firstStep s).trace = s.trace ∧ (firstStep s).fwd = s.fwd ∧
    (firstStep s).portU.sent = s.portU.sent ∧ (firstStep s).portD.queue = s.portD.queue ∧
    (firstStep s).portD.sent = s.portD.sent ∧ (firstStep s).events.mask = s.events.mask ∧
    (firstStep s).pending = s.pending ∧ (firstStep s).choice = s.choice := by
  unfold firstStep
  try dsimp only
  (repeat' split) <;> simp

@[simp] theorem judgeStep_frame (s : State) :
    (judgeStep s).now = s.now ∧ (judgeStep s).node = s.node ∧ (judgeStep s).params = s.params ∧
    (judgeStep s).lines = s.lines ∧ (judgeStep s).chain = s.chain ∧ (judgeStep s).beams = s.beams ∧
    (judgeStep s).tilt = s.tilt ∧ (judgeStep s).store = s.store ∧ (judgeStep s).run = s.run ∧
    (judgeStep s).tick = s.tick ∧ (judgeStep s).trace = s.trace ∧ (judgeStep s).fwd = s.fwd ∧
    (judgeStep s).portU.sent = s.portU.sent ∧ (judgeStep s).portD.queue = s.portD.queue ∧
    (judgeStep s).portD.sent = s.portD.sent ∧ (judgeStep s).events.mask = s.events.mask ∧
    (judgeStep s).pending = s.pending ∧ (judgeStep s).choice = s.choice := by
  unfold judgeStep
  try dsimp only
  (repeat' split) <;> simp

@[simp] theorem stepTimerExpiry_frame (s : State) :
    (stepTimerExpiry s).now = s.now ∧ (stepTimerExpiry s).node = s.node ∧
    (stepTimerExpiry s).params = s.params ∧ (stepTimerExpiry s).lines = s.lines ∧
    (stepTimerExpiry s).chain = s.chain ∧ (stepTimerExpiry s).beams = s.beams ∧
    (stepTimerExpiry s).tilt = s.tilt ∧ (stepTimerExpiry s).store = s.store ∧
    (stepTimerExpiry s).run = s.run ∧ (stepTimerExpiry s).tick = s.tick ∧
    (stepTimerExpiry s).trace = s.trace ∧ (stepTimerExpiry s).fwd = s.fwd ∧
    (stepTimerExpiry s).portU.sent = s.portU.sent ∧ (stepTimerExpiry s).portD.queue = s.portD.queue ∧
    (stepTimerExpiry s).portD.sent = s.portD.sent ∧ (stepTimerExpiry s).events.mask = s.events.mask ∧
    (stepTimerExpiry s).pending = s.pending ∧ (stepTimerExpiry s).choice = s.choice := by
  unfold stepTimerExpiry
  try dsimp only
  (repeat' split) <;> simp

@[simp] theorem noBeamTimeout_frame (s : State) :
    (noBeamTimeout s).now = s.now ∧ (noBeamTimeout s).node = s.node ∧ (noBeamTimeout s).params = s.params ∧
    (noBeamTimeout s).lines = s.lines ∧ (noBeamTimeout s).chain = s.chain ∧
    (noBeamTimeout s).beams = s.beams ∧ (noBeamTimeout s).tilt = s.tilt ∧ (noBeamTimeout s).store = s.store ∧
    (noBeamTimeout s).run = s.run ∧ (noBeamTimeout s).tick = s.tick ∧ (noBeamTimeout s).trace = s.trace ∧
    (noBeamTimeout s).fwd = s.fwd ∧ (noBeamTimeout s).portU.sent = s.portU.sent ∧
    (noBeamTimeout s).portD.queue = s.portD.queue ∧ (noBeamTimeout s).portD.sent = s.portD.sent ∧
    (noBeamTimeout s).events.mask = s.events.mask ∧ (noBeamTimeout s).pending = s.pending ∧
    (noBeamTimeout s).choice = s.choice := by
  unfold noBeamTimeout
  try dsimp only
  (repeat' split) <;> simp

@[simp] theorem checkMax_frame (s : State) :
    (checkMax s).now = s.now ∧ (checkMax s).node = s.node ∧ (checkMax s).params = s.params ∧
    (checkMax s).lines = s.lines ∧ (checkMax s).chain = s.chain ∧ (checkMax s).beams = s.beams ∧
    (checkMax s).tilt = s.tilt ∧ (checkMax s).store = s.store ∧ (checkMax s).run = s.run ∧
    (checkMax s).tick = s.tick ∧ (checkMax s).trace = s.trace ∧ (checkMax s).fwd = s.fwd ∧
    (checkMax s).portU.sent = s.portU.sent ∧ (checkMax s).portD.queue = s.portD.queue ∧
    (checkMax s).portD.sent = s.portD.sent ∧ (checkMax s).events.mask = s.events.mask ∧
    (checkMax s).pending = s.pending ∧ (checkMax s).choice = s.choice := by
  unfold checkMax
  try dsimp only
  (repeat' split) <;> simp

theorem dropNotice_congr {s t : State} (he : t.events = s.events) (hk : t.counters = s.counters) :
    (dropNotice t).events = (dropNotice s).events ∧ (dropNotice t).counters = (dropNotice s).counters := by
  have h1 : latched .noticeDrop (count .noticeDropped 1 t) = latched .noticeDrop (count .noticeDropped 1 s) := by
    simp [latched, he]
  have h2 : masked .noticeDrop (count .noticeDropped 1 t) = masked .noticeDrop (count .noticeDropped 1 s) := by
    simp [masked, he]
  cases h3 : latched .noticeDrop (count .noticeDropped 1 s) <;>
    cases h4 : masked .noticeDrop (count .noticeDropped 1 s) <;>
    simp [dropNotice, h1, h2, h3, h4, he, hk]

/-- What a latch writes depends on the events, the Port U queue, the counters, the clock and the node alone. -/
theorem latch_congr {s t : State} (e : Event) (b : Option BeamCode) (c : Nat) (he : t.events = s.events)
    (hq : t.portU = s.portU) (hk : t.counters = s.counters) (hn : t.now = s.now) (hd : t.node = s.node) :
    latch e b c t = { t with
      events := (latch e b c s).events
      portU := (latch e b c s).portU
      counters := (latch e b c s).counters } := by
  have h : ∀ x : State, x.events = s.events → x.portU = s.portU → x.counters = s.counters → x.now = s.now →
      x.node = s.node → (latch e b c x).events = (latch e b c s).events ∧
      (latch e b c x).portU = (latch e b c s).portU ∧ (latch e b c x).counters = (latch e b c s).counters := by
    intro x he hq hk hn hd
    have hl : latched e x = latched e s := by simp [latched, he]
    have hm : masked e x = masked e s := by simp [masked, he]
    have hr : roomU x = roomU s := by simp [roomU, hq]
    have hf : noticeFrame e b c x = noticeFrame e b c s := by simp [noticeFrame, hn, hd]
    have hx : (setLatch e x).events = (setLatch e s).events := by simp [setLatch, he]
    have hy : (setLatch e x).counters = (setLatch e s).counters := by simp [hk]
    have hdr := dropNotice_congr hx hy
    cases h1 : latched e s <;> cases h2 : masked e s <;> cases h3 : roomU s <;>
      simp [latch, hl, hm, hr, hf, hdr, h1, h2, h3, he, hq, hk]
  obtain ⟨h1, h2, h3⟩ := h t he hq hk hn hd
  rw [← h1, ← h2, ← h3]
  have hf := latch_frame e b c t
  generalize latch e b c t = u at hf ⊢
  obtain ⟨⟩ := u
  simp only at hf
  obtain ⟨rfl, rfl, rfl, rfl, rfl, rfl, rfl, rfl, rfl, rfl, rfl, rfl, rfl, rfl, rfl, rfl, -, rfl, -, rfl, rfl⟩ := hf
  rfl

end Sys2Proof.Machine
end

