-- ==== Sys2Proof/Laws/Requests.lean ====
section
/-! SUPPORT. What the request exchange does, said once: the body a request carries, the reply, and what the
forwarding of a request's own frame leaves unchanged. -/

namespace Sys2Proof.Machine

/-- A request that carries a body is judged with that body. -/
theorem bodyOf_of_carries {r : Request} {body : List Byte} {n : Nat} (h : Carries r body)
    (hn : body.length = n) : bodyOf n r = some body := by
  subst hn
  obtain ⟨h1, h2⟩ := h
  have : body.length ≤ r.rest.length := by
    have := congrArg List.length h2
    simp [List.length_take] at this
    omega
  simp [bodyOf, h1, h2, this]

/-- A request with the wrong declared length, or with too few bytes, has no body. -/
theorem bodyOf_of_wrong {r : Request} {n : Nat} (h : r.len.toNat ≠ n ∨ r.rest.length < n) :
    bodyOf n r = none := by
  unfold bodyOf
  rw [if_neg (by omega)]

/-- A request carried out on its body, as one outcome. -/
theorem answerRequest_of_carries {code : Byte} {r : Request} {body : List Byte} {n : Nat}
    {act : List Byte → State → Answer} {s : State} (h : Carries r body) (hn : body.length = n) :
    answerRequest code n r act s = sendReply code r (act body (forwardRequest s.node code r s)) := by
  simp [answerRequest, bodyOf_of_carries h hn]

/-- A request of the wrong length is answered MALFORMED. -/
theorem answerRequest_of_wrong {code : Byte} {r : Request} {n : Nat}
    {act : List Byte → State → Answer} {s : State} (h : r.len.toNat ≠ n ∨ r.rest.length < n) :
    answerRequest code n r act s
      = sendReply code r (refuse .malformed (forwardRequest s.node code r s)) := by
  simp [answerRequest, bodyOf_of_wrong h]

/-- The reply changes only the Port U queue, or the counters when that queue is full. -/
@[simp] theorem sendReply_frame (code : Byte) (r : Request) (a : Answer) :
    (sendReply code r a).now = a.state.now ∧ (sendReply code r a).node = a.state.node ∧
    (sendReply code r a).params = a.state.params ∧ (sendReply code r a).lines = a.state.lines ∧
    (sendReply code r a).chain = a.state.chain ∧ (sendReply code r a).beams = a.state.beams ∧
    (sendReply code r a).tilt = a.state.tilt ∧ (sendReply code r a).store = a.state.store ∧
    (sendReply code r a).run = a.state.run ∧ (sendReply code r a).ctl = a.state.ctl ∧
    (sendReply code r a).depth = a.state.depth ∧ (sendReply code r a).travel = a.state.travel ∧
    (sendReply code r a).tick = a.state.tick ∧ (sendReply code r a).test = a.state.test ∧
    (sendReply code r a).trace = a.state.trace ∧ (sendReply code r a).fwd = a.state.fwd ∧
    (sendReply code r a).portU.sent = a.state.portU.sent ∧
    (sendReply code r a).portD = a.state.portD ∧ (sendReply code r a).events = a.state.events ∧
    (sendReply code r a).pending = a.state.pending ∧ (sendReply code r a).choice = a.state.choice := by
  unfold sendReply
  split <;> simp

/-- A request that carries a body of its length, as the outcome the statements use. -/
theorem next_answerRequest {code : Byte} {r : Request} {body : List Byte} (n : Nat)
    {act : List Byte → State → Answer} {s : State} (h : Carries r body) (hn : body.length = n) :
    Host.Outcome.next (answerRequest code n r act s) = answered code r s (act body) := by
  rw [answerRequest_of_carries h hn]; rfl

/-- What the forwarding of a request's own frame leaves unchanged. -/
def SameButQueues (s t : State) : Prop :=
  t.now = s.now ∧ t.node = s.node ∧ t.params = s.params ∧ t.lines = s.lines ∧ t.chain = s.chain ∧
  t.beams = s.beams ∧ t.tilt = s.tilt ∧ t.store = s.store ∧ t.run = s.run ∧ t.ctl = s.ctl ∧
  t.depth = s.depth ∧ t.travel = s.travel ∧ t.tick = s.tick ∧ t.test = s.test ∧ t.trace = s.trace ∧
  t.fwd = s.fwd ∧ t.events.mask = s.events.mask ∧ t.pending = s.pending ∧ t.choice = s.choice

theorem forwardRequest_same (d : BitVec 6) (code : Byte) (r : Request) (s : State) :
    SameButQueues s (forwardRequest d code r s) := by
  simp [SameButQueues]

/-- Two ways of carrying a request out that agree on every state that its forwarding can leave. -/
theorem answered_ext {code : Byte} {r : Request} {s : State} {f g : State → Answer}
    (h : ∀ t, SameButQueues s t → f t = g t) : answered code r s f = answered code r s g := by
  unfold answered
  rw [h _ (forwardRequest_same s.node code r s)]

end Sys2Proof.Machine
end

