-- ==== Sys2Proof/Laws/Beams.lean ====
section
/-! SUPPORT. What the entries of the beam table hold after each operation on them, and what a STRIKE frame's form
gives: the lemmas that keep the strike statements from unfolding the table. -/

namespace Sys2Proof.Machine

@[simp] theorem beam_count (k : Counter) (n : Nat) (c : BeamCode) (s : State) :
    beam (count k n s) c = beam s c := rfl

@[simp] theorem beam_latch (e : Event) (b : Option BeamCode) (a : Nat) (c : BeamCode) (s : State) :
    beam (latch e b a s) c = beam s c := by
  simp [beam]

@[simp] theorem beam_latchHere (e : Event) (b : Option BeamCode) (c : BeamCode) (s : State) :
    beam (latchHere e b s) c = beam s c := by
  simp [beam]

@[simp] theorem beam_countReject (k : Counter) (b c : BeamCode) (s : State) :
    beam (countReject k b s) c = beam s c := by
  simp [beam]

@[simp] theorem beam_forwardTaken (p : Port) (k : Byte) (f : Arrival) (c : BeamCode) (s : State) :
    beam (forwardTaken p k f s) c = beam s c := by
  simp [beam]

@[simp] theorem beam_forwardRequest (d : BitVec 6) (k : Byte) (r : Request) (c : BeamCode) (s : State) :
    beam (forwardRequest d k r s) c = beam s c := by
  simp [beam]

/-- The sequence check writes the sequence record of its beam and no other field of an entry (R5). -/
@[simp] theorem beam_checkSequence (c d : BeamCode) (n : Byte) (s : State) :
    beam (checkSequence c n s) d = if d = c then { beam s c with seq := some n } else beam s d := by
  unfold checkSequence
  dsimp only
  split <;> split <;> simp

/-- What a forwarded and sequence-checked STRIKE frame leaves in the table. -/
@[simp] theorem beam_strikeSeen (f : Arrival) (c d : BeamCode) (n : Byte) (s : State) :
    beam (strikeSeen f c n s) d = if d = c then { beam s c with seq := some n } else beam s d := by
  simp [strikeSeen]

/-- The frame of a forwarded and sequence-checked STRIKE frame. -/
@[simp] theorem strikeSeen_frame (f : Arrival) (c : BeamCode) (n : Byte) (s : State) :
    (strikeSeen f c n s).now = s.now ∧ (strikeSeen f c n s).params = s.params ∧
    (strikeSeen f c n s).chain = s.chain ∧ (strikeSeen f c n s).tilt = s.tilt ∧
    (strikeSeen f c n s).store = s.store ∧ (strikeSeen f c n s).run = s.run ∧
    (strikeSeen f c n s).ctl = s.ctl ∧ (strikeSeen f c n s).test = s.test := by
  simp [strikeSeen]

/-- The beam code of a beam's own byte. -/
@[simp] theorem beamOfByte_beamByte (c : BeamCode) : beamOfByte (beamByte c) = some c := by
  cases c <;> rfl

/-- A well-formed STRIKE frame's fields. -/
theorem parseStrike_of_kind {c : BeamCode} {k hi lo n : Byte} {rest : List Byte} {kind : StrikeKind}
    (h : strikeKind k hi lo = some kind) :
    parseStrike (beamByte c :: k :: hi :: lo :: n :: rest) = some ⟨c, kind, n⟩ := by
  simp [parseStrike, h]

theorem strikeKind_single {hi lo : Byte} (h : (int2 hi lo).natAbs ≤ 255) :
    strikeKind 0 hi lo = some (.single (int2 hi lo)) := by
  simp [strikeKind, h]

/-- A STRIKE frame whose kind is defined is handled after its forwarding and sequence check (R3). -/
theorem takeStrike_of_kind {f : Arrival} {c : BeamCode} {k hi lo n : Byte} {rest : List Byte}
    {kind : StrikeKind} (hd : f.data = beamByte c :: k :: hi :: lo :: n :: rest)
    (h : strikeKind k hi lo = some kind) (s : State) :
    takeStrike f s =
      let rs := handleKind c kind (strikeSeen f c n s)
      handTestStrike c rs.1 (handReferenceStrike c rs.1 (beamTransition c rs.1 rs.2)) := by
  simp [takeStrike, hd, parseStrike_of_kind h, handleStrike, strikeSeen, clsStrike]

/-- A strike of a beam that no running test watches does nothing at the test (R136). -/
theorem handTestStrike_of_not {c : BeamCode} {r : StrikeResult} {s : State}
    (h : ∀ t, testRun s = some t → t.beam ≠ c) : handTestStrike c r s = s := by
  unfold handTestStrike
  unfold testRun at h
  dsimp only
  cases hp : s.test.phase <;> cases r <;> simp_all

/-- An accepted height is taken by the statements' own words for it. -/
theorem acceptHeight_eq (c : BeamCode) (b : Int) (s : State) : acceptHeight c b s = heightTaken c b s := rfl

/-- The entry of an accepted height, and the others as they were (R7). -/
@[simp] theorem beam_heightTaken (c d : BeamCode) (b : Int) (s : State) :
    beam (heightTaken c b s) d =
      if d = c then { beam s c with
        accepted := some ⟨b, s.now.ms⟩, rejects := 0, lastStrike := some s.now.ms, fade := none }
      else beam s d := by
  simp only [heightTaken, beam_setBeam]
  rfl

@[simp] theorem heightTaken_frame (c : BeamCode) (b : Int) (s : State) :
    (heightTaken c b s).now = s.now ∧ (heightTaken c b s).params = s.params ∧
    (heightTaken c b s).chain = s.chain ∧ (heightTaken c b s).tilt = s.tilt ∧
    (heightTaken c b s).store = s.store ∧ (heightTaken c b s).run = s.run ∧
    (heightTaken c b s).ctl = s.ctl ∧ (heightTaken c b s).test = s.test :=
  ⟨rfl, rfl, rfl, rfl, rfl, rfl, rfl, rfl⟩

/-- Replacing an entry twice keeps the second. -/
@[simp] theorem setBeam_setBeam (c : BeamCode) (e e' : Beam) (s : State) :
    setBeam c e' (setBeam c e s) = setBeam c e' s := by
  cases c <;> rfl

/-- The jump filter's window, on the entry's last height (R7). -/
theorem passesWindow_eq (b : Int) (e : Beam) (p : Params) :
    passesWindow b e p = e.accepted.all (fun h => decide ((b - h.b).natAbs ≤ p.jump)) := by
  unfold passesWindow
  cases e.accepted <;> simp

/-- A counted reject is the statements' own words for it (R8, R191). -/
theorem countReject_eq (c : BeamCode) (s : State) : countReject .jumpRejects c s = jumpCounted c s := rfl

@[simp] theorem beam_jumpCounted (c d : BeamCode) (s : State) : beam (jumpCounted c s) d = beam s d := by
  simp [← countReject_eq]

@[simp] theorem jumpCounted_frame (c : BeamCode) (s : State) :
    (jumpCounted c s).now = s.now ∧ (jumpCounted c s).params = s.params ∧ (jumpCounted c s).chain = s.chain ∧
    (jumpCounted c s).tilt = s.tilt ∧ (jumpCounted c s).store = s.store ∧ (jumpCounted c s).run = s.run ∧
    (jumpCounted c s).ctl = s.ctl ∧ (jumpCounted c s).test = s.test := by
  simp [← countReject_eq]

theorem passesWindow_seen (f : Arrival) (c : BeamCode) (n : Byte) (b : Int) (s : State) :
    passesWindow b (beam (strikeSeen f c n s) c) (strikeSeen f c n s).params = nearLast c b s := by
  simp [passesWindow_eq, nearLast]

/-- A SINGLE that the statements call accepted is handled so (R6 to R8). -/
theorem handleKind_accepted {f : Arrival} {c : BeamCode} {n : Byte} {p : Int} {s : State} {r : StrikeResult}
    {w : State} (h : HeightAccepted f c n (roundDiv (p * s.params.pitch) 4) s r w) :
    handleKind c (.single p) (strikeSeen f c n s) = (r, w) := by
  have hp : (strikeSeen f c n s).params = s.params := by simp
  simp only [handleKind, beamHeight, passesWindow_seen]
  rw [hp]
  unfold HeightAccepted at h
  rcases h with ⟨h, rfl, rfl⟩ | ⟨h, hr, rfl, rfl⟩
  · simp only [nearLast] at h ⊢
    simp [h, acceptHeight_eq]
  · simp only [nearLast] at h ⊢
    have hr' : ¬ ((beam s c).rejects + 1 < s.params.jumpn) := by omega
    simp [h, failWindow, countReject_eq, hr', acceptHeight_eq, latchHere]

/-- A SINGLE beyond the window, short of P_JUMPN, is handled as rejected (R8). -/
theorem handleKind_rejected {f : Arrival} {c : BeamCode} {n : Byte} {p : Int} {s : State}
    (h : nearLast c (roundDiv (p * s.params.pitch) 4) s = false) (hr : (beam s c).rejects + 1 < s.params.jumpn) :
    handleKind c (.single p) (strikeSeen f c n s) = (.jumpRejected,
      let v := jumpCounted c (strikeSeen f c n s)
      setBeam c { beam v c with
        rejects := (beam s c).rejects + 1, lastStrike := some s.now.ms
        fade := if (beam s c).state = .fading then (beam s c).fade else none } v) := by
  simp only [nearLast] at h
  simp [handleKind, beamHeight, passesWindow_eq, h, failWindow, countReject_eq, hr]

/-- The entry an accepted height leaves, and the others as they were (R7, R8). -/
theorem beam_of_accepted {f : Arrival} {c : BeamCode} {n : Byte} {b : Int} {s : State} {r : StrikeResult} {w : State}
    (h : HeightAccepted f c n b s r w) (d : BeamCode) :
    beam w d = if d = c then { beam s c with
        seq := some n, accepted := some ⟨b, s.now.ms⟩, rejects := 0, lastStrike := some s.now.ms, fade := none }
      else beam s d := by
  rcases h with ⟨-, -, rfl⟩ | ⟨-, -, -, rfl⟩ <;> by_cases hd : d = c <;> simp [hd]

/-- What an accepted height leaves as it was (R7, R8). -/
theorem frame_of_accepted {f : Arrival} {c : BeamCode} {n : Byte} {b : Int} {s : State} {r : StrikeResult} {w : State}
    (h : HeightAccepted f c n b s r w) :
    w.now = s.now ∧ w.params = s.params ∧ w.chain = s.chain ∧ w.tilt = s.tilt ∧ w.store = s.store ∧
    w.run = s.run ∧ w.ctl = s.ctl ∧ w.test = s.test := by
  rcases h with ⟨-, -, rfl⟩ | ⟨-, -, -, rfl⟩ <;> simp

/-- The result of an accepted height is ACCEPTED or REBASED, of that height. -/
theorem result_of_accepted {f : Arrival} {c : BeamCode} {n : Byte} {b : Int} {s : State} {r : StrikeResult} {w : State}
    (h : HeightAccepted f c n b s r w) : r = .accepted b ∨ r = .rebased b := by
  rcases h with ⟨-, h, -⟩ | ⟨-, -, h, -⟩ <;> simp [h]

/-- The expiry condition of an entry's strike timeout (R25). -/
theorem silent_iff (e : Beam) (s : State) : silent e s = true ↔
    e.lastStrike.any (fun t => s.params.strikeTmo < age s.now.ms t) = true ∧
      e.fade.all (fun t => s.params.strikeTmo < age s.now.ms t) = true := by
  unfold silent
  cases h1 : e.lastStrike <;> cases h2 : e.fade <;> simp

theorem isRef_iff (e : Beam) : isRef e = true ↔ e.state = .reference ∨ e.state = .fading := by
  simp [isRef]

/-- In a sound table the entry in REFERENCE or FADING is the reference (R21). -/
theorem reference_eq_some {s : State} {c : BeamCode} (hs : BeamsSound s)
    (h : (beam s c).state = .reference ∨ (beam s c).state = .fading) : reference s = some c := by
  have hc : isRef (beam s c) = true := (isRef_iff _).2 h
  have : ∀ d, d ≠ c → isRef (beam s d) = false := fun d hd => by
    by_contra hx
    exact hd (hs.one d c (by simpa using hx) hc)
  unfold reference
  cases c <;> simp [allBeams, List.find?, hc, this]

/-- In a sound table the entry in REFERENCE is found as such. -/
theorem steadyReference_eq_some {s : State} {c : BeamCode} (hs : BeamsSound s)
    (h : (beam s c).state = .reference) : steadyReference s = some c := by
  have : ∀ d, d ≠ c → (beam s d).state ≠ .reference := fun d hd hh =>
    hd (hs.one d c ((isRef_iff _).2 (Or.inl hh)) ((isRef_iff _).2 (Or.inl h)))
  unfold steadyReference
  cases c <;> simp [allBeams, List.find?, h, this]

/-- The reference depends on the entries' states alone. -/
theorem reference_states {s t : State} (h : ∀ d, (beam t d).state = (beam s d).state) :
    reference t = reference s := by
  simp [reference, isRef, h]

theorem reference_eq_none {s : State} (h : ∀ c, isRef (beam s c) = false) : reference s = none := by
  simp [reference, allBeams, h]

/-- The best candidate so far stays when no later one has a smaller age (R36). -/
theorem latestOf_stays (t : State) (y : BeamCode) : ∀ l : List BeamCode,
    (∀ d ∈ l, (beam t d).state = .established → ¬ acceptedAge (beam t d) t < acceptedAge (beam t y) t) →
    l.foldl (latestOf t) (some y) = some y
  | [], _ => rfl
  | d :: l, h => by
    have ih := latestOf_stays t y l fun e he => h e (List.mem_cons_of_mem _ he)
    have hd := h d List.mem_cons_self
    simp only [List.foldl_cons]
    have : latestOf t (some y) d = some y := by
      unfold latestOf
      split
      · rename_i he
        simp [hd he]
      · rfl
    rw [this, ih]

/-- Candidates of a greater age before it do not stop a later one (R36). -/
theorem latestOf_weaker (t : State) (n : Nat) : ∀ (l : List BeamCode) (best : Option BeamCode),
    (∀ b, best = some b → n < acceptedAge (beam t b) t) →
    (∀ d ∈ l, (beam t d).state = .established → n < acceptedAge (beam t d) t) →
    ∀ b, l.foldl (latestOf t) best = some b → n < acceptedAge (beam t b) t
  | [], _, hb, _ => hb
  | d :: l, best, hb, h => by
    refine latestOf_weaker t n l _ ?_ fun e he => h e (List.mem_cons_of_mem _ he)
    intro b
    have hd := h d List.mem_cons_self
    unfold latestOf
    split
    · rename_i he
      cases best with
      | none => rintro ⟨⟩; exact hd he
      | some b' =>
        dsimp only
        split
        · rintro ⟨⟩; exact hd he
        · rintro ⟨⟩; exact hb _ rfl
    · exact hb b

/-- The ESTABLISHED entry of the smallest age, the lower code at a tie, is the one chosen (R36). -/
theorem latestEstablished_eq_some {t : State} {y : BeamCode} (h : (beam t y).state = .established)
    (hmin : ∀ d, (beam t d).state = .established → d ≠ y →
      acceptedAge (beam t y) t < acceptedAge (beam t d) t ∨
        (acceptedAge (beam t y) t = acceptedAge (beam t d) t ∧ beamNat y < beamNat d)) :
    latestEstablished t = some y := by
  have key : ∀ l1 l2, allBeams = l1 ++ y :: l2 → (∀ d ∈ l1, d ≠ y ∧ beamNat d < beamNat y) →
      (∀ d ∈ l2, d ≠ y) → latestEstablished t = some y := by
    intro l1 l2 hl h1 h2
    unfold latestEstablished
    rw [hl, List.foldl_append, List.foldl_cons]
    have hw := latestOf_weaker t (acceptedAge (beam t y) t) l1 none (by simp) (by
      intro d hd he
      rcases hmin d he (h1 d hd).1 with hlt | ⟨-, hlt⟩
      · exact hlt
      · have := (h1 d hd).2; omega)
    have : latestOf t (l1.foldl (latestOf t) none) y = some y := by
      generalize l1.foldl (latestOf t) none = o at hw ⊢
      unfold latestOf
      rw [if_pos h]
      cases o with
      | none => rfl
      | some b => simp [hw b rfl]
    rw [this]
    refine latestOf_stays t y l2 fun d hd he => ?_
    rcases hmin d he (h2 d hd) with hlt | ⟨heq, -⟩ <;> omega
  cases y
  · exact key [] [.b1, .b2, .b3] rfl (by simp) (by simp)
  · exact key [.b0] [.b2, .b3] rfl (by simp [beamNat]) (by simp)
  · exact key [.b0, .b1] [.b3] rfl (by simp [beamNat]) (by simp)
  · exact key [.b0, .b1, .b2] [] rfl (by simp [beamNat]) (by simp)

theorem latestEstablished_eq_none {t : State} (h : ∀ d, (beam t d).state ≠ .established) :
    latestEstablished t = none := by
  simp [latestEstablished, allBeams, latestOf, h]

end Sys2Proof.Machine
end

