-- ==== Sys2Proof/Laws/Outputs.lean ====
section
/-! SUPPORT. What the transitions put on the outputs, and the endings of a valve test, as the statements spell
them. -/

namespace Sys2Proof.Machine

theorem filterDue_eq (l : Line) (s : State) :
    filterDue l s = (lineOf s l).since.any (fun t => filterPassed l t s) := by
  unfold filterDue; cases (lineOf s l).since <;> rfl

@[simp] theorem lineOf_setLine (l : Line) (f : LineFilter) (s : State) : lineOf (setLine l f s) l = f := by
  cases l <;> rfl

@[simp] theorem setLine_setLine (l : Line) (f g : LineFilter) (s : State) :
    setLine l f (setLine l g s) = setLine l f s := by
  cases l <;> rfl

theorem silence_eq (s : State) : silence s = quieted s := rfl

theorem discardManualValve_eq (s : State) : discardManualValve s = manualDiscarded s := rfl

/-- NEUTRAL emitted at once is never held back by the gate (R123). -/
theorem emitDepthNow_neutral (s : State) : emitDepthNow .neutral s = neutralSent s := by
  simp [emitDepthNow, emitDepth, gateForces, holdDepth, placeDepth, depthFrame, valveCmd, ownFrame, dirCode,
    neutralSent, padded, fdLength, bytes2, clsValveCmd, broadcastNode]
  rfl

theorem emitTravelNow_eq (v : TravelValue) (s : State) : emitTravelNow v s = travelSent v s := by
  obtain ⟨l, r⟩ := v
  simp [emitTravelNow, emitTravel, travelSent, travelCmd, ownFrame, padded, clsTravelCmd, broadcastNode, bytes2,
    fdLength]

theorem testRecord_eq (o : TestOutcome) (t : TestRun) (c : Option Nat) (s : State) :
    testRecord o t c s = resultOf o t c s := by
  unfold testRecord resultOf movement; cases t.dir <;> rfl

/-- What a latch writes does not depend on the test. -/
theorem latch_with_test (e : Event) (b : Option BeamCode) (c : Nat) (x : ValveTest) (s : State) :
    latch e b c { s with test := x } = { latch e b c s with test := x } := by
  rw [latch_congr (s := s) (t := { s with test := x }) e b c rfl rfl rfl rfl rfl]
  simp

theorem latch_with_ctl (e : Event) (b : Option BeamCode) (c : Nat) (x : Control) (s : State) :
    latch e b c { s with ctl := x } = { latch e b c s with ctl := x } := by
  rw [latch_congr (s := s) (t := { s with ctl := x }) e b c rfl rfl rfl rfl rfl]
  simp

/-- The ending by STOP, before the trip (R138). -/
theorem closeTest_stop (t : TestRun) (c : Option Nat) (s : State) : closeTest .stop t c s =
    { latch .testDone (some t.beam) s.chain.s s with test := ⟨.idle, resultOf .stop t c s⟩ } := by
  simp only [closeTest, if_true, latchHere, testRecord_eq, latch_with_test]

/-- Every other ending, up to the return (R138). -/
theorem closeTest_of_ne {o : TestOutcome} (h : o ≠ .stop) (t : TestRun) (c : Option Nat) (s : State) :
    closeTest o t c s =
      { latch .testDone (some t.beam) s.chain.s (neutralSent s) with test := ⟨.idle, resultOf o t c s⟩ } := by
  have : resultOf o t c (neutralSent s) = resultOf o t c s := rfl
  simp only [closeTest, if_neg h, latchHere, testRecord_eq, latch_with_test, emitDepthNow_neutral, this]
  rfl

/-- A transition into STANDBY or MANUAL (R76). -/
theorem releaseControl_eq {new : CtlState} (hn : new ≠ .auto) (s : State) :
    releaseControl new s = released new s := by
  unfold releaseControl released
  cases h : s.ctl.state <;>
    simp [h, enterIdle, handback, silence_eq, emitDepthNow_neutral, setState, quieted, neutralSent, hn]

/-- A transition into AUTO (R82). -/
theorem enterAuto_eq (s : State) : enterAuto s = autoEntered s := by
  simp [enterAuto, autoEntered, discardManualValve_eq, manualDiscarded, setState, setMemory]

theorem swapBanks_eq (s : State) : swapBanks s = swapped s := rfl

/-- HOLD to SUSPENDED (R86). -/
theorem reportSuspend_of_hold {s : State} (h : s.ctl.state = .hold) :
    reportSuspend s = suspendedEntered s := by
  unfold reportSuspend suspendedEntered
  rw [if_pos h]
  simp only [latchHere, enterSuspended, setState, h]
  simp only [reduceCtorEq, if_false, or_self]
  have : reference (writeTravel ⟨0, .suspended⟩ (writeDepth .neutral
      { s with ctl := { s.ctl with state := .suspended } })) = reference s := reference_congr (by simp)
  rw [this]
  simp

/-- A value written to the TRAVEL channel (R113, R114). -/
theorem writeTravel_eq (v : TravelValue) (s : State) : writeTravel v s =
    if s.params.modeTravel = .immediate then travelSent v s
    else { s with travel := { s.travel with waiting := some v, fresh := true } } := by
  unfold writeTravel; cases h : s.params.modeTravel <;> simp [emitTravelNow_eq]

theorem dwellClear_eq (d : Dir) (s : State) : dwellClear d s = dwellPassed d s := by
  unfold dwellClear dwellPassed
  cases d <;> simp <;> (split <;> simp_all)

/-- A step current written in TEST (R120, R135). -/
theorem writeStep_eq (t : TestRun) (i : Nat) {s : State} (h : s.ctl.state = .test) :
    writeStep t i s = stepTaken t i s := by
  simp [writeStep, writeDepth, silenced, h, depthImmediate, emitDepthNow, holdDepth, stepTaken, later]

/-- The return from TEST (R90). -/
theorem returnFromTest_eq {s : State} {p : CtlState} (h : s.ctl.prior = some p) (hp : p ≠ .auto)
    (ht : s.ctl.state = .test) : returnFromTest s = writeTravel ⟨10000, .none⟩
      (quieted { s with ctl := { s.ctl with state := p, prior := none } }) := by
  simp only [returnFromTest, h, clearPrior, enterIdle, setState, silence_eq, ht]
  simp only [hp, reduceCtorEq, or_self, if_false, writeTravel_eq, quieted]
  split <;> simp [travelSent]

/-- An ending of the running test other than by STOP (R138). -/
theorem endTest_eq {o : TestOutcome} (ho : o ≠ .stop) {s : State} {t : TestRun} {p : CtlState} {c : Option Nat}
    (h : s.ctl.prior = some p) (hp : p = .standby ∨ p = .manual) (ht : s.ctl.state = .test)
    (hc : s.test.phase = .waiting t ∧ c = none ∨ ∃ i m m', s.test.phase = .stepping t i m m' ∧ c = some i) :
    endTest o s = testEnded o p t c s := by
  have hr : testRunning s = true := by
    rcases hc with ⟨h1, _⟩ | ⟨i, m, m', h1, _⟩ <;> simp [testRunning, testRun, h1]
  have hcl : closeRunningTest o s =
      { latch .testDone (some t.beam) s.chain.s (neutralSent s) with test := ⟨.idle, resultOf o t c s⟩ } := by
    rcases hc with ⟨h1, h2⟩ | ⟨i, m, m', h1, h2⟩ <;> simp only [closeRunningTest, h1, closeTest_of_ne ho, h2]
  rw [endTest, if_pos hr, hcl]
  have hp' : p ≠ .auto := by rcases hp with h | h <;> simp [h]
  rw [returnFromTest_eq (p := p) (by simp [neutralSent, h]) hp' (by simp [neutralSent, ht])]
  simp only [testEnded]
  rw [latch_with_test .testDone (some t.beam) s.chain.s ⟨s.test.phase, resultOf o t c s⟩ (neutralSent s)]
  simp [neutralSent]

/-- A swap does not depend on the control unit. -/
theorem swapped_with_ctl (x : Control) (s : State) :
    swapped { s with ctl := x } = { swapped s with ctl := x } :=
  latch_with_ctl .profileSwapped none s.chain.s x { s with store := { s.store with
    active := s.store.staging, staging := ⟨[], 0, []⟩, takeover := none } }

/-- A tick's TRAVEL frame carries the held value. -/
theorem emitTravel_eq (s : State) : emitTravel s = travelSent s.travel.held s := by
  rw [← emitTravelNow_eq]; rfl

/-- The test of R151 before a TRACE_DATA frame. -/
theorem canStream_iff (s : State) : canStream s = true ↔ mayStream s := by
  simp only [canStream, mayStream, unread, Bool.and_eq_true, decide_eq_true_eq, Nat.one_le_iff_ne_zero]
  refine and_congr_left fun _ => not_congr ?_
  bv_omega

/-- One TRACE_DATA frame (R151, R197). -/
theorem streamOne_eq (s : State) : streamOne s = recordsSent s := by
  have ha : advanceRead (min 2 (unread s.trace)) s.trace = (recordsSent s).trace := by
    simp only [advanceRead, recordsSent, unread]
    cases s.trace.mark <;> simp
  simp only [streamOne, pushU, ownFrame, padded]
  rw [ha]
  rfl

end Sys2Proof.Machine
end

