-- ==== Sys2Proof/Laws/PerInstr.lean ====
section
/-! SUPPORT. The family `Framed`: every well-formed command that arrives as a frame is the command the part
classifies that frame as (R159 to R161, R175, R193, R198). -/

namespace Sys2Proof.Laws

open Machine

/-! ## The identifier's fields, read back -/

@[simp] theorem classOf_identOf (a : BitVec 3) (c : Byte) (d s t : BitVec 6) : classOf (identOf a c d s t) = c := by
  apply BitVec.eq_of_getLsbD_eq
  intro i hi
  simp only [classOf, identOf, BitVec.getLsbD_extractLsb', BitVec.getLsbD_append]
  simp [hi, show ¬ (18 + i < 6) by omega, show ¬ (18 + i - 6 < 6) by omega, show ¬ (18 + i - 6 - 6 < 6) by omega, show 18 + i - 6 - 6 - 6 = i by omega]

@[simp] theorem destOf_identOf (a : BitVec 3) (c : Byte) (d s t : BitVec 6) : destOf (identOf a c d s t) = d := by
  apply BitVec.eq_of_getLsbD_eq
  intro i hi
  simp only [destOf, identOf, BitVec.getLsbD_extractLsb', BitVec.getLsbD_append]
  simp [hi, show ¬ (12 + i < 6) by omega, show ¬ (12 + i - 6 < 6) by omega, show 12 + i - 6 - 6 = i by omega]

@[simp] theorem prio_identOf (a : BitVec 3) (c : Byte) (d s t : BitVec 6) : (identOf a c d s t).extractLsb' 26 3 = a := by
  apply BitVec.eq_of_getLsbD_eq
  intro i hi
  simp only [identOf, BitVec.getLsbD_extractLsb', BitVec.getLsbD_append]
  simp [hi, show ¬ (26 + i < 6) by omega, show ¬ (26 + i - 6 < 6) by omega, show ¬ (26 + i - 6 - 6 < 6) by omega, show ¬ (26 + i - 6 - 6 - 6 < 8) by omega, show 26 + i - 6 - 6 - 6 - 8 = i by omega]

@[simp] theorem src_identOf (a : BitVec 3) (c : Byte) (d s t : BitVec 6) : (identOf a c d s t).extractLsb' 6 6 = s := by
  apply BitVec.eq_of_getLsbD_eq
  intro i hi
  simp only [identOf, BitVec.getLsbD_extractLsb', BitVec.getLsbD_append]
  simp [hi, show ¬ (6 + i < 6) by omega]

@[simp] theorem tag_identOf (a : BitVec 3) (c : Byte) (d s t : BitVec 6) : (identOf a c d s t).extractLsb' 0 6 = t := by
  apply BitVec.eq_of_getLsbD_eq
  intro i hi
  simp only [identOf, BitVec.getLsbD_extractLsb', BitVec.getLsbD_append]
  simp [hi]

/-! ## The family -/

/-- The port and the frame a command arrives as at the part of a node; none for the commands that are no frame. -/
def arrives (node : BitVec 6) : Instr → Option (Port × CanFrame)
  | .strike f => some (.u, frameOf clsStrike f)
  | .tilt f => some (.u, frameOf clsTilt f)
  | .sync f => some (.d, frameOf clsSync f)
  | .manualValve f => some (.u, frameOf clsManualValve f)
  | .forwardedFrame p id format data => some (p, ⟨.ext id, .data format, data⟩)
  | .unclassifiedFrame p f => some (p, f)
  | .mgmtReqShortHeader prio src tag format b =>
    some (.u, ⟨.ext (identOf prio clsMgmtReq node src tag), .data format, b.toList⟩)
  | .unknownRequest code r => some (.u, requestFrame node code r)
  | .identify broadcast r =>
    some (.u, requestFrame (if broadcast then broadcastNode else node) codeIdentify r)
  | .loadEntry r => some (.u, requestFrame node codeLoadEntry r)
  | other => (fixedRequest other).map (fun x => (.u, requestFrame node x.1 x.2.2))

/-- A well-formed command that arrives as a frame at a part of node 16 to 23 is what the part classifies that
frame as. -/
def Framed.Statement (c : Instr) : Prop :=
  ∀ (node : BitVec 6) (p : Port) (f : CanFrame), c.wellFormed node = true → node.toNat ≤ 23 →
    arrives node c = some (p, f) → decodeFrame node p f = c

/-- A request's frame, addressed to the part, is read as the command of its code. -/
theorem decodeFrame_request (node : BitVec 6) (code : Byte) (r : Request) :
    decodeFrame node .u (requestFrame node code r) = decodeRequest false code r := by
  have hc := classOf_identOf r.prio clsMgmtReq node r.src r.tag
  refine (if_neg (fun e => ?_)).trans ((if_neg (fun e => ?_)).trans ((if_neg (fun e => ?_)).trans
    ((if_pos hc).trans ((if_pos (destOf_identOf ..)).trans ?_))))
  · exact absurd (hc.symm.trans e) (by decide)
  · exact absurd (hc.symm.trans e) (by decide)
  · exact absurd (hc.symm.trans e) (by decide)
  · rw [prio_identOf, src_identOf, tag_identOf]

/-- A broadcast IDENTIFY, at a node other than 63. -/
theorem decodeFrame_broadcast (node : BitVec 6) (h : node.toNat ≤ 23) (r : Request) :
    decodeFrame node .u (requestFrame broadcastNode codeIdentify r) = .identify true r := by
  have hn : ¬ broadcastNode = node := by
    intro e
    rw [← e] at h
    exact absurd h (by decide)
  have hc := classOf_identOf r.prio clsMgmtReq broadcastNode r.src r.tag
  refine (if_neg (fun e => ?_)).trans ((if_neg (fun e => ?_)).trans ((if_neg (fun e => ?_)).trans
    ((if_pos hc).trans ((if_neg (fun e => ?_)).trans ((if_pos ⟨destOf_identOf .., rfl⟩).trans ?_)))))
  · exact absurd (hc.symm.trans e) (by decide)
  · exact absurd (hc.symm.trans e) (by decide)
  · exact absurd (hc.symm.trans e) (by decide)
  · exact hn ((destOf_identOf ..).symm.trans e)
  · rw [prio_identOf, src_identOf, tag_identOf]

/-- A command that arrives as the request frame of its code. -/
theorem framed_of_code (code : Byte) (r : Request) {c : Instr}
    (ha : ∀ node, arrives node c = some (.u, requestFrame node code r)) (hd : decodeRequest false code r = c) :
    Framed.Statement c := by
  intro node q g _ _ h
  rw [ha] at h
  cases h
  rw [decodeFrame_request, hd]

/-- A command that is no frame. -/
theorem framed_of_none {c : Instr} (ha : ∀ node, arrives node c = none) : Framed.Statement c := by
  intro node q g _ _ h
  rw [ha] at h
  cases h

/-- The arrival a frame of a class is read back as. -/
theorem arrival_identOf (f : Arrival) (cls : Byte) :
    (⟨(identOf f.prio cls f.dest f.src f.tag).extractLsb' 26 3, destOf (identOf f.prio cls f.dest f.src f.tag),
      (identOf f.prio cls f.dest f.src f.tag).extractLsb' 6 6,
      (identOf f.prio cls f.dest f.src f.tag).extractLsb' 0 6, f.format, f.data⟩ : Arrival) = f := by
  rw [prio_identOf, destOf_identOf, src_identOf, tag_identOf]

theorem Framed.strike (f : Arrival) : Framed.Statement (.strike f) := by
  intro node p g _ _ h
  cases h
  exact (if_pos (classOf_identOf ..)).trans (congrArg Instr.strike (arrival_identOf f _))

theorem Framed.tilt (f : Arrival) : Framed.Statement (.tilt f) := by
  intro node p g _ _ h
  cases h
  have hc := classOf_identOf f.prio clsTilt f.dest f.src f.tag
  refine (if_neg (fun e => ?_)).trans ((if_pos hc).trans (congrArg Instr.tilt (arrival_identOf f _)))
  exact absurd (hc.symm.trans e) (by decide)

theorem Framed.sync (f : Arrival) : Framed.Statement (.sync f) := by
  intro node p g _ _ h
  cases h
  exact (if_pos (classOf_identOf ..)).trans (congrArg Instr.sync (arrival_identOf f _))

theorem Framed.manualValve (f : Arrival) : Framed.Statement (.manualValve f) := by
  intro node p g _ _ h
  cases h
  have hc := classOf_identOf f.prio clsManualValve f.dest f.src f.tag
  refine (if_neg (fun e => ?_)).trans ((if_neg (fun e => ?_)).trans
    ((if_pos hc).trans (congrArg Instr.manualValve (arrival_identOf f _))))
  · exact absurd (hc.symm.trans e) (by decide)
  · exact absurd (hc.symm.trans e) (by decide)

theorem Framed.forwardedFrame (p : Port) (id : Ident) (format : DataFormat) (data : List Byte) :
    Framed.Statement (.forwardedFrame p id format data) := by
  intro node q g hw _ h
  cases h
  have ht : takenByBlock node p id data = false := by simpa using (Bool.and_eq_true_iff.mp hw).2
  cases p
  · obtain ⟨⟨⟨h1, h2⟩, h3⟩, h4⟩ : ((¬ classOf id = clsStrike ∧ ¬ classOf id = clsTilt) ∧
        ¬ classOf id = clsManualValve) ∧ (classOf id = clsMgmtReq → ¬ destOf id = node ∧
          (destOf id = broadcastNode → 2 ≤ data.length → ¬ data.head? = some codeIdentify)) := by
      simpa [takenByBlock] using ht
    refine (if_neg h1).trans ((if_neg h2).trans ((if_neg h3).trans ?_))
    by_cases hm : classOf id = clsMgmtReq
    · obtain ⟨hn, hb⟩ := h4 hm
      refine (if_pos hm).trans ?_
      rcases data with _ | ⟨code, _ | ⟨len, rest⟩⟩
      · exact if_neg hn
      · exact if_neg hn
      · refine (if_neg hn).trans (if_neg ?_)
        rintro ⟨hd, rfl⟩
        exact hb hd (Nat.le_add_left 2 _) rfl
    · exact if_neg hm
  · have h1 : ¬ classOf id = clsSync := by simpa [takenByBlock] using ht
    exact if_neg h1

theorem Framed.unclassifiedFrame (p : Port) (f : CanFrame) : Framed.Statement (.unclassifiedFrame p f) := by
  intro node q g hw _ h
  cases h
  have hu : unclassified f = true := (Bool.and_eq_true_iff.mp hw).1
  obtain ⟨id, kind, data⟩ := f
  cases id <;> cases kind <;> first | rfl | cases hu

theorem Framed.mgmtReqShortHeader (prio : BitVec 3) (src tag : BitVec 6) (format : DataFormat) (b : Option Byte) :
    Framed.Statement (.mgmtReqShortHeader prio src tag format b) := by
  intro node q g _ _ h
  cases h
  have hc := classOf_identOf prio clsMgmtReq node src tag
  have h1 : ¬ classOf (identOf prio clsMgmtReq node src tag) = clsStrike :=
    fun e => absurd (hc.symm.trans e) (by decide)
  have h2 : ¬ classOf (identOf prio clsMgmtReq node src tag) = clsTilt :=
    fun e => absurd (hc.symm.trans e) (by decide)
  have h3 : ¬ classOf (identOf prio clsMgmtReq node src tag) = clsManualValve :=
    fun e => absurd (hc.symm.trans e) (by decide)
  cases b <;> refine (if_neg h1).trans ((if_neg h2).trans ((if_neg h3).trans
    ((if_pos hc).trans ((if_pos (destOf_identOf ..)).trans ?_)))) <;> rw [prio_identOf, src_identOf, tag_identOf] <;> rfl

theorem Framed.unknownRequest (code : Byte) (r : Request) : Framed.Statement (.unknownRequest code r) := by
  intro node q g hw _ h
  cases h
  rw [decodeFrame_request]
  have hn : ¬ code ∈ definedCodes := by simpa using (Bool.and_eq_true_iff.mp hw).2
  simp only [definedCodes, List.mem_cons, List.not_mem_nil, or_false, not_or] at hn
  simp [decodeRequest, hn]

theorem Framed.identify (broadcast : Bool) (r : Request) : Framed.Statement (.identify broadcast r) := by
  intro node q g _ hn h
  cases h
  cases broadcast
  · exact decodeFrame_request node codeIdentify r
  · exact decodeFrame_broadcast node hn r

/-- The code of the two SET_MODE rows, told apart by the mode byte. -/
theorem decodeRequest_setMode (r : Request) : decodeRequest false codeSetMode r =
    if modeIsManual r = true then .setModeManual r else .setModeAuto r := rfl

theorem Framed.setModeAuto (r : Request) : Framed.Statement (.setModeAuto r) := by
  intro node q g hw _ h
  cases h
  have hm : modeIsManual r = false := by simpa using (Bool.and_eq_true_iff.mp hw).2
  rw [decodeFrame_request, decodeRequest_setMode, hm, if_neg Bool.false_ne_true]

theorem Framed.setModeManual (r : Request) : Framed.Statement (.setModeManual r) := by
  intro node q g hw _ h
  cases h
  rw [decodeFrame_request, decodeRequest_setMode, (Bool.and_eq_true_iff.mp hw).2, if_pos rfl]

/-! The requests of one code each. -/

theorem Framed.snapshot (r : Request) : Framed.Statement (.snapshot r) :=
  framed_of_code codeSnapshot r (fun _ => rfl) rfl

theorem Framed.reset (r : Request) : Framed.Statement (.reset r) :=
  framed_of_code codeReset r (fun _ => rfl) rfl

theorem Framed.clearRun (r : Request) : Framed.Statement (.clearRun r) :=
  framed_of_code codeClearRun r (fun _ => rfl) rfl

theorem Framed.paramRead (r : Request) : Framed.Statement (.paramRead r) :=
  framed_of_code codeParamRead r (fun _ => rfl) rfl

theorem Framed.paramWrite (r : Request) : Framed.Statement (.paramWrite r) :=
  framed_of_code codeParamWrite r (fun _ => rfl) rfl

theorem Framed.loadBegin (r : Request) : Framed.Statement (.loadBegin r) :=
  framed_of_code codeLoadBegin r (fun _ => rfl) rfl

theorem Framed.loadEntry (r : Request) : Framed.Statement (.loadEntry r) :=
  framed_of_code codeLoadEntry r (fun _ => rfl) rfl

theorem Framed.loadCommit (r : Request) : Framed.Statement (.loadCommit r) :=
  framed_of_code codeLoadCommit r (fun _ => rfl) rfl

theorem Framed.loadCancel (r : Request) : Framed.Statement (.loadCancel r) :=
  framed_of_code codeLoadCancel r (fun _ => rfl) rfl

theorem Framed.readEntry (r : Request) : Framed.Statement (.readEntry r) :=
  framed_of_code codeReadEntry r (fun _ => rfl) rfl

theorem Framed.openRun (r : Request) : Framed.Statement (.openRun r) :=
  framed_of_code codeOpenRun r (fun _ => rfl) rfl

theorem Framed.closeRun (r : Request) : Framed.Statement (.closeRun r) :=
  framed_of_code codeCloseRun r (fun _ => rfl) rfl

theorem Framed.bench (r : Request) : Framed.Statement (.bench r) :=
  framed_of_code codeBench r (fun _ => rfl) rfl

theorem Framed.setDepth (r : Request) : Framed.Statement (.setDepth r) :=
  framed_of_code codeSetDepth r (fun _ => rfl) rfl

theorem Framed.resume (r : Request) : Framed.Statement (.resume r) :=
  framed_of_code codeResume r (fun _ => rfl) rfl

theorem Framed.clearTrip (r : Request) : Framed.Statement (.clearTrip r) :=
  framed_of_code codeClearTrip r (fun _ => rfl) rfl

theorem Framed.handover (r : Request) : Framed.Statement (.handover r) :=
  framed_of_code codeHandover r (fun _ => rfl) rfl

theorem Framed.adopt (r : Request) : Framed.Statement (.adopt r) :=
  framed_of_code codeAdopt r (fun _ => rfl) rfl

theorem Framed.testStart (r : Request) : Framed.Statement (.testStart r) :=
  framed_of_code codeTestStart r (fun _ => rfl) rfl

theorem Framed.testAbort (r : Request) : Framed.Statement (.testAbort r) :=
  framed_of_code codeTestAbort r (fun _ => rfl) rfl

theorem Framed.testResult (r : Request) : Framed.Statement (.testResult r) :=
  framed_of_code codeTestResult r (fun _ => rfl) rfl

theorem Framed.testApply (r : Request) : Framed.Statement (.testApply r) :=
  framed_of_code codeTestApply r (fun _ => rfl) rfl

theorem Framed.fwdWrite (r : Request) : Framed.Statement (.fwdWrite r) :=
  framed_of_code codeFwdWrite r (fun _ => rfl) rfl

theorem Framed.fwdRead (r : Request) : Framed.Statement (.fwdRead r) :=
  framed_of_code codeFwdRead r (fun _ => rfl) rfl

theorem Framed.traceRead (r : Request) : Framed.Statement (.traceRead r) :=
  framed_of_code codeTraceRead r (fun _ => rfl) rfl

theorem Framed.traceMark (r : Request) : Framed.Statement (.traceMark r) :=
  framed_of_code codeTraceMark r (fun _ => rfl) rfl

theorem Framed.traceUnmark (r : Request) : Framed.Statement (.traceUnmark r) :=
  framed_of_code codeTraceUnmark r (fun _ => rfl) rfl

theorem Framed.traceRewind (r : Request) : Framed.Statement (.traceRewind r) :=
  framed_of_code codeTraceRewind r (fun _ => rfl) rfl

theorem Framed.traceGate (r : Request) : Framed.Statement (.traceGate r) :=
  framed_of_code codeTraceGate r (fun _ => rfl) rfl

theorem Framed.eventRead (r : Request) : Framed.Statement (.eventRead r) :=
  framed_of_code codeEventRead r (fun _ => rfl) rfl

theorem Framed.maskWrite (r : Request) : Framed.Statement (.maskWrite r) :=
  framed_of_code codeMaskWrite r (fun _ => rfl) rfl

theorem Framed.countersRead (r : Request) : Framed.Statement (.countersRead r) :=
  framed_of_code codeCountersRead r (fun _ => rfl) rfl

theorem Framed.countersClear (r : Request) : Framed.Statement (.countersClear r) :=
  framed_of_code codeCountersClear r (fun _ => rfl) rfl

/-! The commands that are no frame. -/

theorem Framed.powerOn (straps : BitVec 3) : Framed.Statement (.powerOn straps) :=
  framed_of_none fun _ => rfl

theorem Framed.lineLevelChange (l : Line) (high : Bool) : Framed.Statement (.lineLevelChange l high) :=
  framed_of_none fun _ => rfl

theorem Framed.strikeTimeout (c : BeamCode) : Framed.Statement (.strikeTimeout c) :=
  framed_of_none fun _ => rfl

theorem Framed.portUFrameDeparture : Framed.Statement .portUFrameDeparture :=
  framed_of_none fun _ => rfl

theorem Framed.arbiterTakesFrame : Framed.Statement .arbiterTakesFrame :=
  framed_of_none fun _ => rfl

theorem Framed.acceptedOdoEdge : Framed.Statement .acceptedOdoEdge :=
  framed_of_none fun _ => rfl

theorem Framed.acceptedDirChange : Framed.Statement .acceptedDirChange :=
  framed_of_none fun _ => rfl

theorem Framed.acceptedDigChange : Framed.Statement .acceptedDigChange :=
  framed_of_none fun _ => rfl

theorem Framed.stopAcceptedActive : Framed.Statement .stopAcceptedActive :=
  framed_of_none fun _ => rfl

theorem Framed.stopRelease : Framed.Statement .stopRelease :=
  framed_of_none fun _ => rfl

theorem Framed.referenceTimeout : Framed.Statement .referenceTimeout :=
  framed_of_none fun _ => rfl

theorem Framed.fadingTimeout : Framed.Statement .fadingTimeout :=
  framed_of_none fun _ => rfl

theorem Framed.tiltExpiry : Framed.Statement .tiltExpiry :=
  framed_of_none fun _ => rfl

theorem Framed.outputTick : Framed.Statement .outputTick :=
  framed_of_none fun _ => rfl

theorem Framed.syncTimeout : Framed.Statement .syncTimeout :=
  framed_of_none fun _ => rfl

theorem Framed.holdDistanceExpiry : Framed.Statement .holdDistanceExpiry :=
  framed_of_none fun _ => rfl

theorem Framed.dwellClearMoment : Framed.Statement .dwellClearMoment :=
  framed_of_none fun _ => rfl

theorem Framed.stepTimerExpiry : Framed.Statement .stepTimerExpiry :=
  framed_of_none fun _ => rfl

theorem Framed.noBeamTimeout : Framed.Statement .noBeamTimeout :=
  framed_of_none fun _ => rfl

end Sys2Proof.Laws
end

