-- ==== Sys2Proof/Tests/Slice0.lean ====
section
/-! SUPPORT. Tests: the checks of WellFormed, the part's classification of frames, one step of each command on
the spec's worked cases, and a witness for the hypotheses of each statement. -/

namespace Sys2Proof.Tests

open Machine

/-! ## Helpers -/

/-- The state a command leads to, if it answers one. -/
def after (c : Instr) (s : State) : Option State :=
  match exec c s with
  | .next t => some t
  | .fault _ => none
  | .refused _ => none

/-- A field of the state a command leads to. -/
def seen {α : Type} (c : Instr) (s : State) (f : State → α) : Option α := (after c s).map f

/-- An arriving CAN FD frame from node 2 to every node, with its data. -/
def arrival (data : List Byte) : Arrival := ⟨0, 63, 2, 0, .fd, data⟩

/-- A request from node 20 with tag 5 that carries a body. -/
def request (body : List Byte) : Request := ⟨5, 20, 5, .fd, byte body.length, body⟩

theorem carries_request (body : List Byte) (h : body.length < 256) : Carries (request body) body := by
  refine ⟨?_, List.take_of_length_le (Nat.le_refl _)⟩
  show (BitVec.ofNat 8 body.length).toNat = body.length
  rw [BitVec.toNat_ofNat]
  exact Nat.mod_eq_of_lt h

/-- The data of the last frame in the Port U queue. -/
def lastU (s : State) : Option (List Byte) := s.portU.queue.getLast?.map (fun q => q.frame.data)

/-- The reply to a request, header and body, without the bytes that only fill the frame. -/
def reply (c : Instr) (s : State) : Option (List Byte) :=
  ((after c s).bind lastU).map (fun d => d.take (4 + (d.getD 3 0).toNat))

/-- The numbers of the events whose latches a command sets. -/
def latched (c : Instr) (s : State) : Option (List Nat) :=
  seen c s (fun t => (List.range 28).filter (fun n => t.events.latches.getLsbD n && !s.events.latches.getLsbD n))

/-- The profile of section 3.4 against the laser grade 100. -/
def profileA : Bank :=
  ⟨[⟨0, 100, none, none⟩, ⟨120000, 60, some 0, none⟩, ⟨300000, 150, some 250, none⟩], 100, [0, 0, -4700000]⟩

/-- The RAISE map of section 6.9. -/
def mapA : List MapPoint := [⟨0, 310⟩, ⟨2000, 420⟩, ⟨5000, 600⟩, ⟨10000, 900⟩]

/-- The tilt table of section 1.7, with 0 in the entries it does not name. -/
def tableA : List Int :=
  [812, 741, 0, 0, 0, 0, 0, 0, 0, 0, 0, 0, 0, 0, 0, -120, -158, 0, 0, 0, 0, 0, 0, -905, -1010]

/-- An entry in REFERENCE with offset 0 and the last height b, accepted at a time. -/
def referenceAt (b : Int) (t : Ms) : Beam := ⟨some 7, some ⟨b, t⟩, 0, some t, .reference, 0, some 0, [], none⟩

/-- The state of the worked computation of section 6.9: run 3 in AUTO, benched, beam 0 the reference. -/
def site : State := { State.reset with
  now := ⟨20010, 0⟩
  params := { defaultParams with mast := 27800, vtStart := 300, vtStep := 20 }
  chain := ⟨213457, 0, 213457, 2134, 0⟩
  beams := { resetBeams with e0 := referenceAt 65 19910 }
  tilt := ⟨350, some 19900, true⟩
  store := { resetStore with
    active := profileA, tiltTable := some tableA, raiseMap := some mapA, lowerMap := some mapA }
  run := ⟨3, true, 100, 28000, true, 100000⟩
  ctl := ⟨.auto, none, 3000, false⟩
  tick := resetTick 20000 }

/-- That state in another control state of an open run. -/
def siteIn (c : CtlState) : State := { site with ctl := ⟨c, none, 3000, false⟩ }

/-! ## WellFormed refuses each ill-formed term -/

theorem test_wf_fd_longest : (Instr.strike (arrival (List.replicate 64 0))).wellFormed 18 = true := by decide
theorem test_wf_fd_too_long : (Instr.tilt (arrival (List.replicate 65 0))).wellFormed 18 = false := by decide
theorem test_wf_classic_too_long :
    (Instr.sync ⟨0, 63, 2, 0, .classic, List.replicate 9 0⟩).wellFormed 18 = false := by decide
theorem test_wf_forwarded_too_long :
    (Instr.forwardedFrame .u 0 .classic (List.replicate 9 0)).wellFormed 18 = false := by decide
theorem test_wf_forwarded_but_taken :
    (Instr.forwardedFrame .d (identOf 0 clsSync 63 40 0) .fd []).wellFormed 18 = false := by decide
theorem test_wf_forwarded_strike_on_d :
    (Instr.forwardedFrame .d (identOf 0 clsStrike 63 2 0) .fd [0]).wellFormed 18 = true := by decide
theorem test_wf_unclassified_but_classified :
    (Instr.unclassifiedFrame .u ⟨.ext 0, .data .fd, []⟩).wellFormed 18 = false := by decide
theorem test_wf_unclassified_too_long :
    (Instr.unclassifiedFrame .u ⟨.std 5, .data .classic, List.replicate 9 0⟩).wellFormed 18 = false := by decide
theorem test_wf_remote_with_data :
    (Instr.unclassifiedFrame .u ⟨.ext 0, .remote 2, [1, 2]⟩).wellFormed 18 = false := by decide
theorem test_wf_unknown_but_defined : (Instr.unknownRequest 0x02 (request [])).wellFormed 18 = false := by decide
theorem test_wf_request_too_long :
    (Instr.snapshot (request (List.replicate 63 0))).wellFormed 18 = false := by decide
theorem test_wf_auto_with_manual : (Instr.setModeAuto (request [0])).wellFormed 18 = false := by decide
theorem test_wf_manual_with_auto : (Instr.setModeManual (request [1])).wellFormed 18 = false := by decide

/-! ## The classification of arriving frames -/

/-- The identifier of the example of R193, and the same from its fields bit by bit. -/
theorem test_ident_example : identOf 1 clsValveCmd 63 18 0 = 0x4C7F480 ∧
    identOf 1 clsValveCmd 63 18 0 = 0b00100110001111111010010000000 := by decide

theorem test_no_word_spells_a_command : decodeTableWord 16 0x4C7F = none := rfl

/-- Priority 0, class 0x21, destination 63, source 2, tag 0. -/
theorem test_decode_strike : decodeFrame 18 .u ⟨.ext 0b00000100001111111000010000000, .data .fd, [0, 0, 0, 14, 8]⟩ =
    .strike (arrival [0, 0, 0, 14, 8]) := by decide

/-- A STRIKE frame on Port D is taken by no block. -/
theorem test_decode_strike_on_d : decodeFrame 18 .d ⟨.ext 0b00000100001111111000010000000, .data .fd, [0]⟩ =
    .forwardedFrame .d 0b00000100001111111000010000000 .fd [0] := by decide

/-- Priority 5, class 0x40, destination 18, source 20, tag 5, code 0x34 with mode 0 and with mode 1. -/
theorem test_decode_set_mode :
    decodeFrame 18 .u ⟨.ext 0b10101000000010010010100000101, .data .fd, [0x34, 1, 0]⟩ = .setModeManual (request [0]) ∧
    decodeFrame 18 .u ⟨.ext 0b10101000000010010010100000101, .data .fd, [0x34, 1, 1]⟩ =
      .setModeAuto (request [1]) := by decide

/-- A broadcast IDENTIFY is addressed to the part, any other broadcast request is not. -/
theorem test_decode_broadcast :
    decodeFrame 18 .u ⟨.ext 0b10101000000111111010100000101, .data .fd, [0x01, 0]⟩ = .identify true (request []) ∧
    decodeFrame 18 .u ⟨.ext 0b10101000000111111010100000101, .data .fd, [0x02, 0]⟩ =
      .forwardedFrame .u 0b10101000000111111010100000101 .fd [0x02, 0] := by decide

theorem test_decode_short_header :
    decodeFrame 18 .u ⟨.ext 0b10101000000010010010100000101, .data .fd, [0x34]⟩ =
      .mgmtReqShortHeader 5 20 5 .fd (some 0x34) := by decide

theorem test_decode_unknown :
    decodeFrame 18 .u ⟨.ext 0b10101000000010010010100000101, .data .fd, [0x37, 0]⟩ =
      .unknownRequest 0x37 (request []) := by decide

theorem test_decode_sync : decodeFrame 18 .d ⟨.ext 0b00000110011111111101000000000, .data .classic, []⟩ =
    .sync ⟨0, 63, 40, 0, .classic, []⟩ := by decide

theorem test_decode_unclassified : decodeFrame 18 .u ⟨.std 0x7FF, .data .fd, [1]⟩ =
    .unclassifiedFrame .u ⟨.std 0x7FF, .data .fd, [1]⟩ := by decide

/-! ## Functions on the spec's worked values -/

/-- The cases of section 1.7. -/
theorem test_corrections : [350, 0, -1175, 1150, 1200, -1200].map (correction tableA) =
    [-139, 0, 794, -958, -1010, 812] := by decide

/-- The roundings of R2: 413.5 becomes 414, −373.5 becomes −374. -/
theorem test_roundings : roundDiv 4135 10 = 414 ∧ roundDiv (-3735) 10 = -374 := by decide

/-- The base offsets of section 3.4, and its profile that goes out of range. -/
theorem test_base_offsets : baseOffsets 100 profileA.entries = [0, 0, -4700000] ∧
    baseOffsets 100 [⟨0, 100, none, none⟩, ⟨1000000, 400, none, none⟩, ⟨2000000, 100, none, none⟩] =
      [0, 0, 300000000] := by decide

/-- The design targets of section 3.6. -/
theorem test_targets : [100000, 120125, 213457, 299999, 300000, 400000].map (targetAt profileA) =
    [some 0, some (-1), some (-374), some (-720), some (-470), some 30] := by decide

/-- The table of R100. -/
theorem test_raw_demands : [0, 15, -15, 16, -16, 105, 145, -200].map (fun e => rawDemand e defaultParams) =
    [0, 0, 0, 840, -840, 4400, 6000, -6000] := by decide

/-- The steps of section 6.10: raw demand, memory before, memory after. -/
theorem test_slew : [(6000, 0), (6000, 1000), (2600, 2000), (1000, 2600), (-2000, 1000), (-1800, 0), (-1000, -1000),
    (6000, -1000), (6000, 0)].map (fun x : Int × Int => slewLimit x.1 x.2 1000) =
    [1000, 2000, 2600, 1000, 0, -1000, -1000, 0, 1000] := by decide

/-- Travel limits of sections 6.9 and 6.10. -/
theorem test_travel_limits : [105, 200, 180, 60, 20, 271].map (fun e => errorLimit e defaultParams) =
    [8900, 7000, 7400, 9800, 10000, 5580] := by decide

/-- The table of R125. -/
theorem test_currents : [1, 1000, 2000, 2025, 4000, 6000, 10000].map (mapCurrent mapA) =
    [some 310, some 365, some 420, some 422, some 540, some 660, some 900] := by decide

/-! ## Frames and lines, one step each -/

/-- The worked computation of section 6.9. -/
theorem test_strike_computes : seen (.strike (arrival [0, 0, 0, 14, 8])) site (fun t =>
    (t.ctl.memory, t.depth.waiting, t.travel.waiting)) =
    some (4000, some (.demand .raise 4000), some ⟨8900, .error⟩) := by decide

/-- Step 6 of section 1.4: the third far SINGLE rebases. -/
theorem test_strike_rebases :
    seen (.strike (arrival [1, 0, 0, 101, 47])) (setBeam .b1 ⟨some 46, some ⟨100, 0⟩, 2, some 0, .tracking, 0, none, [], none⟩
      State.reset) (fun t => (t.beams.e1.accepted, t.beams.e1.rejects, t.counters.jumpRejects, t.counters.acceptedStrikes)) =
    some (some ⟨505, 0⟩, 0, 1, 1) := by decide

/-- The fifth row of section 1.7. -/
theorem test_tilt_clamped : seen (.tilt (arrival [5, 250, 9])) site (fun t => t.tilt) =
    some ⟨1200, some 20010, true⟩ ∧ latched (.tilt (arrival [5, 250, 9])) site = some [17] := by decide

/-- A SYNC frame in FALLBACK is a tick and returns the generator to SYNC (section 7.8). -/
theorem test_sync_returns : seen (.sync ⟨0, 63, 40, 0, .fd, []⟩)
    { State.reset with now := ⟨30450, 0⟩, tick := ⟨.fallback, 30431, 30481, 30281, false⟩ } (fun t => (t.tick.mode, t.tick.lastTick)) =
    some (.syncFrames, 30450) := by decide

/-- A SYNC frame that falls together with the internal tick of FALLBACK leaves it to be made, and it is then made (R122). -/
theorem test_sync_with_tick :
    seen (.sync ⟨0, 63, 40, 0, .fd, []⟩)
      { State.reset with now := ⟨30481, 0⟩, tick := ⟨.fallback, 30431, 30481, 30281, false⟩ } (fun t => t.tick) =
      some ⟨.syncFrames, 30481, 30531, 30481, true⟩ ∧
    seen .outputTick { siteIn .tripped with tick := ⟨.syncFrames, 20010, 20060, 20010, true⟩ } (fun t =>
      (t.tick, t.portD.depthSlot.isSome)) = some (⟨.syncFrames, 20010, 20060, 20010, false⟩, true) := by decide

/-- An override in AUTO: MANUAL, a handback frame of 0 mA, OVERRIDE, and the frame on its way. -/
theorem test_override : seen (.manualValve (arrival [1, 3, 232])) site (fun t =>
      (t.ctl.state, t.portD.queue.length, t.portD.depthSlot.map (fun f => f.data))) =
      some (.manual, 1, some [0, 0, 0, 0]) ∧
    latched (.manualValve (arrival [1, 3, 232])) site = some [10] := by decide

/-- The table of section 10.4 and its default BLOCK. -/
def working : State := { siteIn .manual with
  params := { defaultParams with fwdDefault := .block }
  fwd := [⟨true, .u, identOf 0 clsStrike 0 0 0, identOf 0 255 0 0 0, .block⟩,
    ⟨true, .d, identOf 0 clsSync 0 0 0, identOf 0 255 0 0 0, .block⟩,
    ⟨true, .d, identOf 0 0 20 0 0, identOf 0 0 63 0 0, .pass⟩] ++ List.replicate 21 resetFwdEntry }

/-- Rows 4 and 7 of section 10.4. -/
theorem test_forwarding :
    seen (.forwardedFrame .d (identOf 3 0x50 20 41 0) .fd [1]) working (fun t => t.portU.queue.length) = some 1 ∧
    seen (.forwardedFrame .d (identOf 3 clsMgmtReq 18 41 0) .fd [1, 0]) working (fun t => t.portU.queue.length) =
      some 0 := by decide

/-- Row 1 of section 10.4: the strike is taken and not forwarded; row 5: the joystick frame is forwarded. -/
theorem test_forwarding_taken :
    seen (.strike (arrival [0, 0, 0, 14, 8])) working (fun t => (t.counters.acceptedStrikes, t.portD.queue.length)) =
      some (1, 0) ∧
    seen (.manualValve ⟨0, 40, 2, 0, .fd, [1, 3, 232]⟩) working (fun t => t.portD.queue.length) = some 1 := by decide

theorem test_unclassified_default :
    seen (.unclassifiedFrame .u ⟨.std 5, .data .fd, [1]⟩) working (fun t => t.portD.queue.length) = some 0 ∧
    seen (.unclassifiedFrame .u ⟨.std 5, .data .fd, [1]⟩) site (fun t => t.portD.queue.length) = some 1 := by decide

theorem test_short_header : seen (.mgmtReqShortHeader 5 20 5 .fd none) site (fun t =>
    (t.counters.malformed, t.portU.queue.length, t.portD.queue.length)) = some (1, 0, 0) := by decide

/-- Edge 3 of section 4.4: 23,500 µm from 1,997 mm crosses the boundary 2,000. -/
theorem test_odo_edge : seen .acceptedOdoEdge { site with
      params := { defaultParams with odoScale := 23500 }
      chain := ⟨1997, 0, 1997, 19, 0⟩
      trace := ⟨0, 0, none, 0, [], false⟩
      lines := { quietLines with odo := ⟨true, false, some ⟨20009, 800⟩⟩, dig := ⟨true, true, none⟩ } }
    (fun t => (t.chain, t.trace.kept.map (fun r => (r.boundary, r.flags.recut)))) =
    some (⟨2020, 500, 2020, 20, 0⟩, [(2000, false)]) := by decide

/-- Edge 1 of section 4.6: reverse from 12 mm with 500 µm carried clamps at 0. -/
theorem test_odo_clamp : seen .acceptedOdoEdge { site with
      params := { defaultParams with odoScale := 23500 }
      chain := ⟨12, 500, 2044, 0, 0⟩
      lines := { quietLines with odo := ⟨true, false, some ⟨20009, 800⟩⟩, dir := ⟨true, true, none⟩ } }
    (fun t => (t.chain, t.events.latches.getLsbD 22)) = some (⟨0, 0, 2044, 0, 0⟩, true) := by decide

theorem test_line_candidate : seen (.lineLevelChange .stop false) site (fun t => t.lines.stop) =
    some ⟨false, false, some ⟨20010, 0⟩⟩ := by decide

theorem test_dir_accepted : seen .acceptedDirChange
      { site with lines := { quietLines with dir := ⟨true, false, some ⟨19990, 0⟩⟩ } } (fun t => t.lines.dir) =
      some ⟨true, true, none⟩ ∧
    seen .acceptedDirChange { site with lines := { quietLines with dir := ⟨true, false, some ⟨19991, 0⟩⟩ } }
      (fun t => t.lines.dir) = some ⟨true, false, some ⟨19991, 0⟩⟩ := by decide

theorem test_dig_accepted : seen .acceptedDigChange
    { site with lines := { quietLines with dig := ⟨true, false, some ⟨19990, 0⟩⟩ } } (fun t => t.lines.dig) =
    some ⟨true, true, none⟩ := by decide

/-- The trip: TRIPPED, NEUTRAL 0 mA and TRAVEL 0 with reason TRIPPED in the slots. -/
theorem test_stop_trips : seen .stopAcceptedActive
    { site with lines := { quietLines with stop := ⟨false, false, some ⟨19990, 0⟩⟩ } } (fun t =>
      (t.ctl.state, t.portD.depthSlot.map (fun f => f.data), t.portD.travelSlot.map (fun f => f.data))) =
    some (.tripped, some [0, 0, 0, 0], some [0, 0, 5]) := by decide

theorem test_stop_release : seen .stopRelease
    { siteIn .tripped with lines := { quietLines with stop := ⟨true, true, some ⟨19990, 0⟩⟩ } } (fun t =>
      (t.lines.stop.active, t.ctl.state)) = some (false, .tripped) := by decide

/-! ## Expiries -/

/-- A silence of 400 ms is not yet one of 401 (R25, R28). -/
theorem test_strike_timeout :
    seen (.strikeTimeout .b1) (setBeam .b1 ⟨none, some ⟨5, 19610⟩, 0, some 19610, .tracking, 0, none, [], none⟩ site)
      (fun t => t.beams.e1.state) = some .tracking ∧
    seen (.strikeTimeout .b1) (setBeam .b1 ⟨none, some ⟨5, 19609⟩, 0, some 19609, .tracking, 0, none, [], none⟩ site)
      (fun t => t.beams.e1.state) = some .lost := by decide

/-- Step 2 of section 5.9: HOLD with NEUTRAL and 2,000 written, at 401 ms after the last strike. -/
theorem test_reference_timeout : seen .referenceTimeout
    { site with now := ⟨60401, 0⟩, beams := { resetBeams with e0 := referenceAt 70 60000 } } (fun t =>
      (t.ctl.state, t.beams.e0.state, t.depth.waiting, t.travel.waiting)) =
    some (.hold, .fading, some .neutral, some ⟨2000, .hold⟩) := by decide

/-- Step 4 of section 5.9: SUSPENDED with no reference, 401 ms after the first expiry and not before. -/
theorem test_fading_timeout : seen .fadingTimeout
      { siteIn .hold with now := ⟨60802, 0⟩, beams := { resetBeams with e0 :=
        { referenceAt 70 60000 with state := .fading, fade := some 60401 } } } (fun t =>
        (t.ctl.state, t.beams.e0.state, t.travel.waiting)) = some (.suspended, .lost, some ⟨0, .suspended⟩) ∧
    seen .fadingTimeout
      { siteIn .hold with now := ⟨60801, 0⟩, beams := { resetBeams with e0 :=
        { referenceAt 70 60000 with state := .fading, fade := some 60401 } } } (fun t => t.ctl.state) =
      some .hold := by decide

theorem test_tilt_expiry : seen .tiltExpiry { site with now := ⟨20401, 0⟩ } (fun t => (t.tilt.fresh, t.tilt.theta)) =
    some (false, 350) := by decide

/-- The ticks at 20,050, 20,150 and 20,200 of section 7.5. -/
theorem test_output_tick_fresh : seen .outputTick { site with
      now := ⟨20050, 0⟩
      depth := { resetDepth with waiting := some (.demand .raise 4000), fresh := true }
      ctl := ⟨.auto, none, 4000, false⟩ } (fun t => (t.portD.depthSlot.map (fun f => f.data), t.counters.staleTicks)) =
    some (some [1, 2, 28, 0], 1) := by decide

theorem test_output_tick_decays :
    seen .outputTick { site with
      now := ⟨20150, 0⟩
      depth := { resetDepth with held := .demand .raise 2000 }
      ctl := ⟨.auto, none, 2000, false⟩ } (fun t => (t.depth.held, t.depth.last.map (fun f => f.current), t.ctl.memory)) =
      some (.demand .raise 1000, some 365, 1000) ∧
    seen .outputTick { site with
      now := ⟨20200, 0⟩
      depth := { resetDepth with held := .demand .raise 1000 }
      ctl := ⟨.auto, none, 1000, false⟩ } (fun t => (t.depth.held, t.ctl.memory, t.events.latches.getLsbD 18)) =
      some (.neutral, 0, true) := by decide

/-- 201 ms after the last SYNC frame (section 7.8). -/
theorem test_sync_timeout : seen .syncTimeout
    { State.reset with now := ⟨30281, 0⟩, tick := ⟨.syncFrames, 30080, 30000, 30080, false⟩ } (fun t =>
      (t.tick.mode, t.tick.nextTick, t.events.latches.getLsbD 19)) = some (.fallback, 30331, true) := by decide

/-- An edge of 10 mm at 1,991 mm of P_HOLD_DIST 2,000, and a d_H above it with no edge (R72). -/
theorem test_hold_distance :
    seen .holdDistanceExpiry { siteIn .hold with
      chain := { site.chain with dH := 1991 }
      lines := { quietLines with odo := ⟨true, false, some ⟨20009, 800⟩⟩ } } (fun t => (t.ctl.state, t.chain.dH)) =
      some (.suspended, 2001) ∧
    seen .holdDistanceExpiry { siteIn .hold with chain := { site.chain with dH := 2001 } } (fun t => t.ctl.state) =
      some .hold := by decide

/-- The test of section 8.8, in WAITING since 40,000. -/
def waitingTest : State := { siteIn .test with
  now := ⟨40070, 0⟩
  ctl := ⟨.test, some .manual, 0, false⟩
  beams := { resetBeams with e0 := referenceAt 200 40060 }
  depth := { resetDepth with lastLower := some 39950 }
  test := ⟨.waiting ⟨.raise, .b0, 200, 40000, 40000⟩, noRecord⟩ }

/-- That test in its sixth step, at its expiry. -/
def sixthStep (b : Int) : State := { waitingTest with
  now := ⟨41570, 0⟩
  beams := { resetBeams with e0 := referenceAt b 41560 }
  test := ⟨.stepping ⟨.raise, .b0, 200, 40000, 41560⟩ 400 41570 41320, noRecord⟩ }

theorem test_dwell_clear : seen .dwellClearMoment waitingTest (fun t => t.portD.depthSlot.map (fun f => f.data)) =
      some (some [1, 1, 44, 0]) ∧
    seen .dwellClearMoment { waitingTest with now := ⟨40069, 0⟩ } (fun t => t.portD.depthSlot) = some none := by decide

theorem test_step_found : seen .stepTimerExpiry (sixthStep 160) (fun t => (t.ctl.state, t.test.result)) =
    some (.manual, ⟨.found, some .raise, some .b0, some 400, some 40, some 1570⟩) := by decide

theorem test_step_next : seen .stepTimerExpiry (sixthStep 175) (fun t =>
    (t.ctl.state, t.portD.depthSlot.map (fun f => f.data))) = some (.test, some [1, 1, 164, 0]) := by decide

theorem test_no_beam : seen .noBeamTimeout { sixthStep 160 with now := ⟨42561, 0⟩ } (fun t => t.test.result.outcome) =
      some .noBeam ∧
    seen .noBeamTimeout { sixthStep 160 with now := ⟨42560, 0⟩ } (fun t => t.test.result.outcome) = some .none := by
  decide

/-! ## Requests, one step each -/

theorem test_power_on : seen (.powerOn 5) site (fun t => (t.node, t.ctl.state, t.events)) =
    some (21, .standby, ⟨1, 0xFFFFFFF⟩) := by decide

theorem test_unknown_request : reply (.unknownRequest 0x37 (request [])) site = some [0x37, 7, 2, 0] := by decide

/-- Vendor 0x5B, part 410, revision 1, node 16. -/
theorem test_identify : reply (.identify true (request [])) site = some [0x01, 0, 2, 5, 0x5B, 1, 154, 1, 16] := by
  decide

theorem test_wrong_length : reply (.snapshot (request [1])) site = some [0x02, 8, 2, 0] ∧
    reply (.openRun { request [0, 0, 0, 0, 0, 0] with len := 7 }) site = some [0x30, 8, 2, 0] := by decide

/-- Section 6.9 after the strike: chainage 213,457, H_meas 27,731 of age 0, H_des 27,626, E 105, run 3 from 100,000,
beam 0, nothing emitted, no trace. -/
theorem test_snapshot : reply (.snapshot (request []))
    { site with beams := { resetBeams with e0 := referenceAt 70 20010 } } = some ([0x02, 0, 2, 41, 15] ++
      [0, 3, 65, 209] ++ [0, 0, 108, 83] ++ [0, 0, 0, 0] ++ [0, 0, 107, 234] ++ [0, 0, 0, 105] ++ [0, 3, 1, 1] ++
      [0, 1, 134, 160] ++ [0] ++ [0, 0, 0, 0, 0, 0] ++ [0, 0, 0] ++ [0, 0]) := by decide

/-- The reset reply waits with its mark, and its departure is the reset. -/
theorem test_reset : seen (.reset (request [])) site (fun t => (t.portU.queue.map (fun q => q.resetReply), t.ctl.state)) =
    some ([true], .auto) := by decide

theorem test_reset_departs : seen .portUFrameDeparture
    { site with portU := ⟨[⟨⟨.ext 0, .data .fd, []⟩, true⟩], none⟩ } (fun t => (t.ctl.state, t.events.latches, t.now.ms)) =
    some (.standby, 2, 20010) := by decide

theorem test_arbiter : seen .arbiterTakesFrame
    { site with portD := ⟨[⟨.ext 3, .data .fd, []⟩], none, some ⟨.ext 2, .data .fd, []⟩, none⟩ } (fun t =>
      (t.portD.sent.map (fun f => f.id), t.portD.queue.length)) = some (some (.ext 2), 1) := by decide

theorem test_clear_run : seen (.clearRun (request [])) site (fun t => (t.ctl.state, t.run, t.chain, t.beams)) =
      some (.standby, ⟨3, false, 100, 0, false, 100000⟩, ⟨0, 0, 0, 0, 0⟩, resetBeams) ∧
    reply (.clearRun (request [])) site = some [0x04, 0, 0, 2, 0, 3] := by decide

theorem test_param_read : reply (.paramRead (request [2])) site = some [0x10, 0, 2, 5, 2, 0, 0, 108, 152] ∧
    reply (.paramRead (request [49])) site = some [0x10, 4, 2, 0] := by decide

/-- P_PITCH is run-fixed; P_UMAX 500 goes to its limit 1,000 and clamps the demand memory. -/
theorem test_param_write : reply (.paramWrite (request [1, 0, 0, 0, 20])) site = some [0x11, 3, 2, 0] ∧
    seen (.paramWrite (request [23, 0, 0, 1, 244])) site (fun t => (t.params.umax, t.ctl.memory)) =
      some (1000, 1000) := by decide

/-- P_TILT_TMO 1,000 makes a record of 600 ms, stale at 500, fresh; 500 makes a fresh one of 600 ms stale (R13). -/
theorem test_param_tilt :
    seen (.paramWrite (request [5, 0, 0, 3, 232])) { site with tilt := ⟨350, some 19410, false⟩ } (fun t => t.tilt.fresh) =
      some true ∧
    seen (.paramWrite (request [5, 0, 0, 1, 244])) { site with tilt := ⟨350, some 19410, true⟩ } (fun t =>
      (t.tilt.fresh, t.events.latches.getLsbD 16)) = some (false, true) := by decide

/-- P_UMIN 5,000 against a P_UMAX of 2,000. -/
theorem test_param_order : reply (.paramWrite (request [22, 0, 0, 19, 136]))
    { site with params := { defaultParams with umax := 2000 } } = some [0x11, 1, 2, 5, 22, 0, 0, 7, 208] := by decide

theorem test_load_begin : reply (.loadBegin (request [2])) site = some [0x20, 0, 2, 3, 2, 0, 0] ∧
    reply (.loadBegin (request [2])) { site with store := { site.store with session := some ⟨.tilt, 3⟩ } } =
      some [0x20, 2, 2, 0] := by decide

/-- Entry 2 of profile A: start 300,000, grade 150, step 250, no cap. -/
theorem test_load_entry : seen (.loadEntry (request [1, 0, 4, 147, 224, 0, 150, 0, 250, 0, 0]))
      { site with store := { site.store with session := some ⟨.profile, 0⟩ } } (fun t => t.store.staging.entries) =
      some [⟨300000, 150, some 250, none⟩] ∧
    reply (.loadEntry (request [])) site = some [0x21, 5, 2, 0] := by decide

/-- Profile A staged in run 3: pending with its takeover chainage 250,000 against the laser grade. -/
theorem test_load_commit : seen (.loadCommit (request [0, 3, 0, 3, 208, 144]))
      { site with store := { site.store with session := some ⟨.profile, 3⟩, staging := ⟨profileA.entries, 0, []⟩ } }
      (fun t => (t.store.staging, t.store.takeover, t.store.session)) = some (profileA, some 250000, none) ∧
    reply (.loadCommit (request [0, 2, 0, 3, 208, 144]))
      { site with store := { site.store with session := some ⟨.profile, 3⟩, staging := ⟨profileA.entries, 0, []⟩ } } =
      some [0x22, 5, 2, 0] := by decide

theorem test_load_cancel : reply (.loadCancel (request [0]))
    { site with store := { site.store with staging := profileA, takeover := some 250000 } } =
    some [0x23, 0, 2, 4, 0, 1, 0, 3] := by decide

theorem test_read_entry : reply (.readEntry (request [2, 0, 1])) site =
      some [0x24, 0, 2, 8, 2, 0, 1, 7, 208, 1, 164, 4] ∧
    reply (.readEntry (request [1, 0, 25])) site = some [0x24, 4, 2, 0] := by decide

/-- Run 3 of section 5.5 opens at 100,000 with grade 100, and the trace refuses without the discard flag. -/
theorem test_open_run : seen (.openRun (request [0, 1, 134, 160, 0, 100, 0]))
      { site with ctl := resetControl, run := ⟨2, false, 0, 0, false, 0⟩ } (fun t =>
        (t.run, t.chain, t.store.active.offsets, t.ctl.state)) =
      some (⟨3, true, 100, 0, false, 100000⟩, ⟨100000, 0, 100000, 1000, 0⟩, [0, 0, -4700000], .manual) ∧
    reply (.openRun (request [0, 1, 134, 160, 0, 100, 0]))
      { site with ctl := resetControl, run := resetRun, trace := ⟨1, 0, none, 1, [], false⟩ } =
      some [0x30, 3, 0, 0] := by decide

theorem test_close_run : seen (.closeRun (request [])) (siteIn .suspended) (fun t =>
      (t.ctl.state, t.run, t.portD.depthSlot.map (fun f => f.data))) =
    some (.standby, ⟨3, false, 100, 0, false, 100000⟩, some [0, 0, 0, 0]) := by decide

/-- The worked case of section 5.5, and the same with a strike of 450 ms ago. -/
def toBench (t : Ms) : State := { siteIn .manual with
  chain := ⟨100000, 0, 100000, 1000, 0⟩
  tilt := ⟨0, some 20000, true⟩
  run := ⟨3, true, 100, 0, false, 100000⟩
  beams := { resetBeams with e0 := referenceAt 200 t } }

/-- The reference FADING with P_STRIKE_TMO raised to 2,000. -/
def fadingSite : State := { toBench 19600 with
  params := { site.params with strikeTmo := 2000 }
  beams := { resetBeams with e0 := { referenceAt 200 19600 with state := .fading, fade := some 20001 } } }

theorem test_bench : reply (.bench (request [0, 0])) (toBench 19920) = some [0x32, 0, 1, 4, 0, 0, 109, 96] ∧
    reply (.bench (request [0, 0])) (toBench 19560) = some [0x32, 6, 1, 0] := by decide

/-- A reference in FADING whose age a raised P_STRIKE_TMO has made small enough is refused by BENCH and TEST_START (R39,
R133). -/
theorem test_fading_refused :
    reply (.bench (request [0, 0])) { fadingSite with ctl := ⟨.manual, none, 0, false⟩ } = some [0x32, 6, 1, 0] ∧
    reply (.testStart (request [1])) { fadingSite with ctl := ⟨.manual, none, 0, false⟩ } = some [0x40, 6, 1, 0] := by
  decide

theorem test_set_depth : reply (.setDepth (request [0, 0, 253, 232])) (toBench 19920) =
    some [0x33, 1, 1, 4, 0, 0, 234, 96] := by decide

theorem test_set_mode_auto : seen (.setModeAuto (request [1])) (siteIn .manual) (fun t => (t.ctl.state, t.ctl.memory)) =
      some (.auto, 0) ∧
    reply (.setModeAuto (request [1])) (toBench 19920) = some [0x34, 3, 1, 0] := by decide

theorem test_set_mode_manual : seen (.setModeManual (request [0])) site (fun t =>
    (t.ctl.state, t.travel.waiting, t.portD.depthSlot.map (fun f => f.data))) =
    some (.manual, some ⟨10000, .none⟩, some [0, 0, 0, 0]) := by decide

theorem test_resume : seen (.resume (request [])) (siteIn .suspended) (fun t => t.ctl.state) = some .auto ∧
    reply (.resume (request [])) (siteIn .hold) = some [0x35, 3, 3, 0] := by decide

theorem test_clear_trip : seen (.clearTrip (request [])) (siteIn .tripped) (fun t => t.ctl.state) = some .manual ∧
    reply (.clearTrip (request [])) { siteIn .tripped with
      lines := { quietLines with stop := ⟨true, true, some ⟨20000, 0⟩⟩ } } = some [0x36, 3, 6, 0] := by decide

/-- Beam 1, ESTABLISHED with offset 414, takes the place of beam 0. -/
theorem test_handover : seen (.handover (request [1]))
    (setBeam .b1 ⟨none, some ⟨5, 20000⟩, 0, some 20000, .established, 0, some 414, [], none⟩ site) (fun t =>
      (t.beams.e1.state, t.beams.e1.offset, t.beams.e0.state, t.beams.e0.offset, t.ctl.memory)) =
    some (.reference, some 414, .established, some 0, 0) := by decide

/-- Step 7 of section 5.9, and an offset beyond 6,400. -/
theorem test_adopt : seen (.adopt (request [1, 0, 0, 1, 158]))
      (setBeam .b1 ⟨none, some ⟨5, 20000⟩, 0, some 20000, .tracking, 0, none, [3], none⟩ (siteIn .suspended)) (fun t =>
        (t.beams.e1.state, t.beams.e1.offset, t.beams.e1.window)) = some (.established, some 414, []) ∧
    reply (.adopt (request [1, 0, 0, 25, 1]))
      (setBeam .b1 ⟨none, some ⟨5, 20000⟩, 0, some 20000, .tracking, 0, none, [], none⟩ (siteIn .suspended)) =
      some [0x39, 1, 4, 0] := by decide

/-- The start of section 8.8: beam 0, b0 200, TRAVEL 0 with reason TEST at once in IMMEDIATE update. -/
theorem test_test_start : seen (.testStart (request [1]))
      { waitingTest with
        now := ⟨40000, 0⟩, ctl := ⟨.manual, none, 0, false⟩, test := resetTest
        beams := { resetBeams with e0 := referenceAt 200 39960 }
        params := { site.params with modeTravel := .immediate } } (fun t =>
        (t.ctl.state, t.ctl.prior, t.portD.travelSlot.map (fun f => f.data), t.portD.depthSlot)) =
      some (.test, some .manual, some [0, 0, 6], none) ∧
    reply (.testStart (request [1])) { waitingTest with
        now := ⟨40000, 0⟩, ctl := ⟨.manual, none, 0, false⟩, test := resetTest
        beams := { resetBeams with e0 := referenceAt 200 39960 } } = some [0x40, 0, 5, 3, 0, 0, 200] := by decide

theorem test_test_abort : seen (.testAbort (request [])) waitingTest (fun t => (t.ctl.state, t.test.result.outcome)) =
      some (.manual, .request) ∧
    reply (.testAbort (request [])) site = some [0x41, 3, 2, 0] := by decide

/-- FOUND, RAISE, beam 0, 400 mA, movement 40, 1,570 ms. -/
theorem test_test_result : reply (.testResult (request [])) { siteIn .manual with
    test := ⟨.idle, ⟨.found, some .raise, some .b0, some 400, some 40, some 1570⟩⟩ } =
    some [0x42, 0, 1, 17, 1, 31, 1, 0, 1, 144, 0, 40, 0, 0, 6, 34, 0, 0, 0, 0, 0] := by decide

/-- Section 8.8: 400 becomes i_0, and 460 would be answered RANGE. -/
theorem test_test_apply : seen (.testApply (request [])) { siteIn .manual with
      test := ⟨.idle, ⟨.found, some .raise, some .b0, some 400, some 40, some 1570⟩⟩ } (fun t => t.store.raiseMap) =
      some (some [⟨0, 400⟩, ⟨2000, 420⟩, ⟨5000, 600⟩, ⟨10000, 900⟩]) ∧
    reply (.testApply (request [])) { siteIn .manual with
      test := ⟨.idle, ⟨.found, some .raise, some .b0, some 460, some 40, some 1570⟩⟩ } = some [0x43, 4, 1, 0] := by decide

theorem test_fwd_write : seen (.fwdWrite (request [23, 1, 0, 1, 0, 0, 0, 7, 31, 255, 255, 255])) site (fun t =>
      (t.fwd.getD 23 resetFwdEntry, t.fwd.length)) = some (⟨true, .u, 7, 0x1FFFFFFF, .block⟩, 24) ∧
    reply (.fwdWrite (request [24, 1, 0, 1, 0, 0, 0, 7, 31, 255, 255, 255])) site = some [0x50, 4, 2, 0] := by decide

theorem test_fwd_read : reply (.fwdRead (request [0])) working =
    some [0x51, 0, 1, 12, 0, 1, 0, 1, 0, 132, 0, 0, 3, 252, 0, 0] := by decide

/-- A record of run 3 at a boundary. -/
def recordAt (n : BitVec 32) (boundary : Nat) : TraceRecord :=
  ⟨n, 3, boundary, 28000, none, .auto, ⟨false, false, false, false, false, false⟩⟩

/-- Three records, the first read and kept by the mark. -/
def traced : State := { site with
  trace := ⟨3, 1, some 0, 3, [recordAt 0 100, recordAt 1 200, recordAt 2 300], true⟩ }

theorem test_trace_read : (reply (.traceRead (request [])) traced).map (fun d => d.take 14) =
      some [0x60, 0, 2, 49, 2, 0, 0, 0, 3, 0, 0, 0, 1, 0] ∧
    seen (.traceRead (request [])) traced (fun t => (t.trace.read, t.trace.kept.length)) = some (3, 3) := by decide

theorem test_trace_mark : reply (.traceMark (request [])) traced = some [0x61, 0, 2, 4, 0, 2, 0, 2] ∧
    seen (.traceMark (request [])) traced (fun t => t.trace.mark) = some (some 1) := by decide

theorem test_trace_unmark : reply (.traceUnmark (request [])) traced = some [0x62, 0, 2, 4, 0, 2, 0, 2] := by decide

theorem test_trace_rewind : reply (.traceRewind (request [])) traced = some [0x63, 0, 2, 4, 0, 3, 0, 3] ∧
    reply (.traceRewind (request [])) site = some [0x63, 3, 2, 0] := by decide

theorem test_trace_gate : seen (.traceGate (request [1])) site (fun t => t.trace.gateOpen) = some true ∧
    reply (.traceGate (request [2])) site = some [0x64, 4, 2, 0] := by decide

theorem test_event_read : reply (.eventRead (request [])) site = some [0x70, 0, 2, 8, 0, 0, 0, 1, 15, 255, 255, 255] ∧
    seen (.eventRead (request [])) site (fun t => t.events.latches) = some 0 := by decide

theorem test_mask_write : seen (.maskWrite (request [0, 0, 0, 2])) site (fun t => t.events) = some ⟨1, 2⟩ ∧
    reply (.maskWrite (request [16, 0, 0, 0])) site = some [0x71, 4, 2, 0] := by decide

theorem test_counters : (reply (.countersRead (request []))
      { site with counters := ⟨258, 0, 0, 0, 0, 0, 0, 0, 0, 0, 65535⟩ }) =
      some ([0x72, 0, 2, 22, 1, 2] ++ List.replicate 18 0 ++ [255, 255]) ∧
    seen (.countersClear (request [])) { site with counters := ⟨258, 0, 0, 0, 0, 0, 0, 0, 0, 0, 65535⟩ }
      (fun t => t.counters) = some resetCounters := by decide

/-! ## Witnesses: a state and operands that meet the hypotheses of each statement, each clause at a boundary -/

/-- A beam table is sound when its four entries are. -/
theorem beamsSound_of {s : State}
    (entry : ∀ c ∈ allBeams,
      ((beam s c).offset.isSome = true ↔
        (beam s c).state = .established ∨ (beam s c).state = .reference ∨ (beam s c).state = .fading) ∧
      ((beam s c).state = .tracking ∨ (beam s c).state = .established ∨ (beam s c).state = .reference ∨
        (beam s c).state = .fading → (beam s c).accepted.isSome = true) ∧
      ((beam s c).window ≠ [] → (beam s c).state = .tracking) ∧
      ((beam s c).state = .fading → (beam s c).fade.isSome = true))
    (one : ∀ c ∈ allBeams, ∀ d ∈ allBeams, isRef (beam s c) = true → isRef (beam s d) = true → c = d) :
    BeamsSound s := by
  have all : ∀ c : BeamCode, c ∈ allBeams := fun c => by cases c <;> decide
  refine ⟨fun c => ?_, fun c d => one c (all c) d (all d)⟩
  obtain ⟨h1, h2, h3, h4⟩ := entry c (all c)
  exact ⟨h1, h2, h3, h4⟩

theorem sound_site : BeamsSound site := beamsSound_of (by decide) (by decide)

/-- The working site with a command waiting. -/
def busy : State := { site with pending := [.strike (arrival [0, 0, 0, 14, 8])] }

theorem sound_test_busy : TestSound busy := ⟨by decide, by decide, by decide⟩

/-- 49 ms after the reset nothing is due, at 50 the first tick. -/
theorem witness_IdleStep : ({ State.reset with now := ⟨49, 0⟩ }.pending = [] ∧
      ∀ c, ¬ ExpiryDue { State.reset with now := ⟨49, 0⟩ } c) ∧
    ({ State.reset with now := ⟨50, 0⟩ }.pending = [] ∧ ExpiryDue { State.reset with now := ⟨50, 0⟩ } .outputTick) := by
  refine ⟨⟨rfl, fun c h => ?_⟩, rfl, .inr (by decide)⟩
  cases c with
  | strikeTimeout c => cases c <;> exact absurd h.1 (by decide)
  | referenceTimeout => obtain ⟨c, hc, -⟩ := h; cases hc
  | fadingTimeout => obtain ⟨c, hc, -⟩ := h; cases hc
  | dwellClearMoment => obtain ⟨t, ht, -⟩ := h; cases ht
  | stepTimerExpiry => obtain ⟨t, i, m, m', ht, -⟩ := h; cases ht
  | noBeamTimeout => obtain ⟨t, ht, -⟩ := h; cases ht
  | outputTick => exact absurd h (by unfold ExpiryDue; decide)
  | syncTimeout => exact absurd h.1 (by decide)
  | acceptedOdoEdge => cases h
  | acceptedDirChange => cases h
  | acceptedDigChange => cases h
  | stopAcceptedActive => cases h.2
  | stopRelease => cases h.2
  | tiltExpiry => cases h.1
  | _ => exact h

theorem witness_StepKeepsSizesAndChainage : (Bounded busy ∧ ChainSound busy) ∧ ∃ t, step busy = .next t :=
  ⟨⟨⟨by decide, by decide, by decide, by constructor <;> decide, by decide⟩, by constructor <;> decide⟩, _, rfl⟩

theorem witness_StepKeepsParamRanges : ParamsInRange busy.params ∧ ∃ t, step busy = .next t := by
  refine ⟨⟨fun id lo hi v hk hv => ?_, by decide⟩, _, rfl⟩
  unfold paramKind at hk
  split at hk <;> cases hk <;> cases hv <;> decide

theorem witness_StepKeepsOneReference : BeamsSound busy ∧ ∃ t, step busy = .next t :=
  ⟨beamsSound_of (by decide) (by decide), _, rfl⟩

theorem control_busy : ControlSound busy :=
  ⟨sound_test_busy, by decide, by decide, by decide, by decide, fun _ => ⟨.b0, by decide⟩,
    fun h => absurd h (by decide), by decide⟩

theorem witness_StepKeepsControlSound : ControlSound busy ∧ ∃ t, step busy = .next t := ⟨control_busy, _, rfl⟩

theorem witness_StepKeepsChannelsSound : ChannelsSound busy ∧ ∃ t, step busy = .next t :=
  ⟨⟨sound_test_busy, by decide, by decide, by decide, by decide⟩, _, rfl⟩

theorem witness_StepKeepsDemandBounded : DemandBounded busy ∧ ∃ t, step busy = .next t :=
  ⟨⟨by decide, by decide, fun v h => by cases h⟩, _, rfl⟩

theorem witness_StepKeepsTablesSound : (ControlSound busy ∧ TablesSound busy) ∧ ∃ t, step busy = .next t := by
  refine ⟨⟨control_busy, ⟨?_, by decide, by decide, by decide⟩, ?_, ?_, ?_, by decide, fun h => absurd h (by decide),
    fun h => absurd h (by decide)⟩, _, rfl⟩
  all_goals intro x h; cases h; decide

theorem witness_StepKeepsTraceRing : TraceSound { traced with pending := [.traceRead (request [])] } ∧
    ∃ t, step { traced with pending := [.traceRead (request [])] } = .next t :=
  ⟨⟨by decide, by decide, by decide⟩, _, rfl⟩

theorem witness_StepKeepsManualGated : ManualGated busy ∧ ∃ t, step busy = .next t :=
  ⟨⟨sound_test_busy, fun c h => ⟨16, by cases h with | head => decide | tail _ h => cases h⟩, fun _ _ f h => by cases h⟩,
    _, rfl⟩

/-- Port U with a number of frames waiting. -/
def queuedU (n : Nat) (mask : BitVec 28) (s : State) : State :=
  { s with portU := ⟨List.replicate n ⟨⟨.ext 0, .data .fd, []⟩, false⟩, none⟩, events := ⟨1, mask⟩ }

/-- Events 0 and 27, the ends of the range; 31 and 32 frames waiting. -/
theorem witness_EventLatching :
    (site.events.latches.getLsbD (eventNo .powerOn) = true) ∧
    (site.events.latches.getLsbD (eventNo .noticeDrop) = false ∧ site.events.mask.getLsbD (eventNo .noticeDrop) = true) ∧
    ((queuedU 31 0 site).events.latches.getLsbD (eventNo .resetDone) = false ∧
      (queuedU 31 0 site).events.mask.getLsbD (eventNo .resetDone) = false ∧ (queuedU 31 0 site).portU.queue.length < 32) ∧
    ((queuedU 32 0 site).events.latches.getLsbD (eventNo .noticeDrop) = false ∧
      (queuedU 32 0 site).events.mask.getLsbD (eventNo .noticeDrop) = false ∧
      32 ≤ (queuedU 32 0 site).portU.queue.length) := by decide

/-- The first notice dropped at a full queue counts 2 with NOTICE_DROP's own (R189). -/
theorem test_notice_cascade : (latch .override none 0 (queuedU 32 0 site)).counters.noticeDropped = 2 ∧
    (latch .noticeDrop none 0 (queuedU 32 0 site)).counters.noticeDropped = 1 := by decide

/-- An entry of mask 0 at the first and at the last index, and the table after reset, where none matches. -/
theorem witness_ForwardingLookup (i : Nat) (hi : i = 0 ∨ i = 23) :
    let s : State := { site with fwd := resetFwd.set i ⟨true, .either, 0, 0, .block⟩ }
    (∃ e, s.fwd[i]? = some e ∧ e.inUse = true ∧ e.ingress = .either ∧
      (∀ (id : Ident) k, e.mask.getLsbD k = true → id.getLsbD k = e.value.getLsbD k) ∧
      ∀ (j : Nat) (e' : FwdEntry), j < i → s.fwd[j]? = some e' → e'.inUse = false) ∧
    (∀ e ∈ site.fwd, e.inUse = false) := by
  have hm : ∀ (id : Ident) k, (0 : Ident).getLsbD k = true → id.getLsbD k = (0 : Ident).getLsbD k := by
    intro id k h
    exact absurd h (by simp)
  have hr : ∀ e ∈ resetFwd, e.inUse = false := fun e h => by rw [List.eq_of_mem_replicate h]; rfl
  refine ⟨⟨⟨true, .either, 0, 0, .block⟩, ?_, rfl, rfl, hm, ?_⟩, hr⟩
  · rcases hi with rfl | rfl <;> rfl
  · intro j e' hj he
    refine hr e' ?_
    rw [List.getElem?_set, if_neg (by omega)] at he
    exact List.mem_of_getElem? he

/-- A STRIKE, a TILT and a SYNC frame pass to the other port after the reset, and a table entry of mask 0 blocks them. -/
theorem test_taken_frames_forwarded :
    seen (.strike (arrival [0, 0, 0, 1, 7])) State.reset (fun t => t.portD.queue.length) = some 1 ∧
    seen (.tilt (arrival [0, 1, 7])) State.reset (fun t => t.portD.queue.length) = some 1 ∧
    seen (.sync (arrival [])) State.reset (fun t => t.portU.queue.length) = some 1 ∧
    seen (.strike (arrival [0, 0, 0, 1, 7])) { State.reset with fwd := resetFwd.set 23 ⟨true, .u, 0, 0, .block⟩ }
      (fun t => t.portD.queue.length) = some 0 := by decide

/-- Each wrong form by one, and the last right one beside it. -/
theorem witness_MalformedFramesAreDropped :
    (arrival [0, 0, 0, 1]).data.length < 5 ∧ 3 < (((arrival [4, 0, 0, 1, 7]).data.getD 0 0).toNat) ∧
    3 < (((arrival [0, 4, 0, 1, 7]).data.getD 1 0).toNat) ∧ 255 < (int2 1 0).natAbs ∧ ¬ 255 < (int2 0 255).natAbs ∧
    (arrival [0, 0]).data.length < 3 ∧ 9000 < (int2 35 41).natAbs ∧ ¬ 9000 < (int2 35 40).natAbs ∧
    2 < (((arrival [3, 0, 0]).data.getD 0 0).toNat) ∧ 10000 < word2 39 17 ∧ ¬ 10000 < word2 39 16 := by decide

theorem witness_RequestsRefusedByForm :
    (fixedRequest (.openRun (request [0, 0, 0, 0, 0, 0])) = some (codeOpenRun, 7, request [0, 0, 0, 0, 0, 0]) ∧
      (request [0, 0, 0, 0, 0, 0]).len.toNat ≠ 7 ∧ (request [0, 0, 0, 0, 0, 0]).rest.length < 7) ∧
    site.store.session = none ∧
    ({ site.store with session := some ⟨.tilt, 25⟩ }.session = some ⟨.tilt, 25⟩ ∧
      (request [0]).len.toNat ≠ entryLength .tilt ∧ (request [0]).rest.length < entryLength .tilt) := by decide

theorem witness_IdentifyRequest : Carries (request []) [] ∧ (request [0]).len ≠ 0 :=
  ⟨carries_request _ (by decide), by decide⟩

theorem witness_PortsTakeFrames :
    let f : CanFrame := ⟨.ext 0, .data .fd, []⟩
    (queuedU 1 0 site).portU.queue = ⟨f, false⟩ :: [] ∧ site.portU.queue = [] ∧
    ({ site.portD with depthSlot := some f }.depthSlot = some f) ∧
    ({ site.portD with travelSlot := some f }.depthSlot = none ∧ { site.portD with travelSlot := some f }.travelSlot = some f) ∧
    ({ site.portD with queue := [f] }.depthSlot = none ∧ { site.portD with queue := [f] }.travelSlot = none ∧
      { site.portD with queue := [f] }.queue = f :: []) ∧
    (site.portD.depthSlot = none ∧ site.portD.travelSlot = none ∧ site.portD.queue = []) := by decide

/-- θ at −1,200, at 1,199 and at +1,200; an exact half of R2. -/
theorem witness_TiltCorrectionInterpolates : (0 < 10 ∧ 2 * ((10 : Int) * roundDiv 4135 10 - 4135).natAbs = 10) ∧
    tableA.length = 25 ∧ (-1200 + 1200 = 100 * ((0 : Nat) : Int) + (0 : Nat) ∧ tableA[0]? = some 812 ∧ tableA[1]? = some 741) ∧
    (1199 + 1200 = 100 * ((23 : Nat) : Int) + (99 : Nat) ∧ (99 : Nat) < 100 ∧ tableA[23]? = some (-905) ∧
      tableA[24]? = some (-1010)) ∧
    (1200 + 1200 = 100 * ((24 : Nat) : Int) + (0 : Nat) ∧ tableA[24]? = some (-1010)) := by decide

/-- Ages of 400 and 401 ms at the default P_STRIKE_TMO; and no reference, no table. -/
theorem witness_MeasuredDepthThroughReference : BeamsSound site ∧
    ((beam site .b0).state = .reference ∧ (beam site .b0).accepted = some ⟨65, 19910⟩ ∧ (beam site .b0).offset = some 0 ∧
      site.store.tiltTable = some tableA) ∧
    (age 20310 19910 ≤ site.params.strikeTmo ∧ ¬ age 20311 19910 ≤ site.params.strikeTmo) ∧
    (∀ c, (beam State.reset c).state ≠ .reference ∧ (beam State.reset c).state ≠ .fading) ∧
    State.reset.store.tiltTable = none :=
  ⟨sound_site, by decide, by decide, fun c => by cases c <;> decide, rfl⟩

theorem witness_BaseOffsetsOfEntries : (baseOffsets 100 profileA.entries)[0]? = some 0 ∧
    (profileA.entries[1]? = some ⟨120000, 60, some 0, none⟩ ∧ profileA.entries[2]? = some ⟨300000, 150, some 250, none⟩ ∧
      (baseOffsets 100 profileA.entries)[1]? = some 0 ∧ (baseOffsets 100 profileA.entries)[2]? = some (-4700000)) := by decide

theorem sound_profileA : BankSound profileA :=
  ⟨fun e h => by cases h; rfl, by decide, by decide, by decide⟩

/-- The first and the last chainage of segment 1, the first of segment 2, and the empty bank. -/
theorem witness_DesignTargetOfSegment : BankSound profileA ∧ profileA.entries ≠ [] ∧
    (profileA.entries[1]? = some ⟨120000, 60, some 0, none⟩ ∧ profileA.offsets[1]? = some 0 ∧ (120000 ≤ 120000) ∧
      (∀ e', profileA.entries[1 + 1]? = some e' → 299999 < e'.start)) ∧
    (profileA.entries[2]? = some ⟨300000, 150, some 250, none⟩ ∧
      (∀ e', profileA.entries[2 + 1]? = some e' → 300000 < e'.start)) ∧ emptyBank.entries = [] :=
  ⟨sound_profileA, by decide, ⟨rfl, rfl, by decide, fun e h => by cases h; decide⟩, ⟨rfl, fun e h => by cases h⟩, rfl⟩

theorem witness_ValveMapInterpolates : mapValid mapA = true ∧ 1 ≤ 1 ∧ 1 ≤ 10000 ∧ 10000 ≤ 10000 := by decide

/-- The window's two ends and one beyond each; each row of the slew limit. -/
theorem witness_DemandLawAndSlewLimit :
    ((15 : Int).natAbs ≤ defaultParams.window ∧ (-15 : Int).natAbs ≤ defaultParams.window) ∧
    (defaultParams.window < (16 : Int).natAbs ∧ defaultParams.window < (-16 : Int).natAbs) ∧
    ((840 : Int) ≠ 0 ∧ ((0 : Int) < 2600 * 2000 ∧ (2000 : Int).natAbs < (2600 : Int).natAbs) ∧
      ((0 : Int) < -1000 * -1000 ∧ (-1000 : Int).natAbs ≤ (-1000 : Int).natAbs) ∧ (-2000 : Int) * 1000 < 0) := by decide

theorem witness_TravelLimitLaw : (50 : Int).natAbs ≤ defaultParams.eSlow ∧ defaultParams.eSlow < (-51 : Int).natAbs ∧
    (8899 < 8900) ∧ (∀ c, some 8900 = some c → 8900 ≤ c) ∧ (∀ c, (none : Option Nat) = some c → 10000 ≤ c) :=
  ⟨by decide, by decide, by decide, fun c h => by cases h; decide, fun c h => by cases h⟩

theorem witness_MultiStrikeIsRejected : (arrival [3, 3, 0, 0, 8]).data = beamByte .b3 :: 3 :: 0 :: 0 :: 8 :: [] := by decide

/-- The site with an ESTABLISHED beam 1, last height 100, one reject held. -/
def withB1 (st : BeamState) (s : State) : State :=
  setBeam .b1 ⟨some 46, some ⟨100, 19900⟩, 1, some 19900, st, 0, if st = .established then some 414 else none, [], none⟩ s

/-- That state after two far strikes of beam 1. -/
def twiceFar (s : State) : State := setBeam .b1 { beam s .b1 with rejects := 2 } s

/-- Heights 400 and 405 against the last height 100 and P_JUMP 300; the second far strike and the third. -/
theorem witness_JumpFilter :
    ((arrival [1, 0, 0, 80, 47]).data = beamByte .b1 :: 0 :: 0 :: 80 :: 47 :: [] ∧
      (beam (withB1 .established site) .b1).state = .established ∧ (int2 0 80).natAbs ≤ 255 ∧
      nearLast .b1 (roundDiv (int2 0 80 * 20) 4) (withB1 .established site) = true ∧
      nearLast .b1 (roundDiv (int2 0 81 * 20) 4) (withB1 .established site) = false ∧ 1 + 1 < site.params.jumpn) ∧
    (∃ r w, HeightAccepted (arrival [1, 0, 0, 80, 47]) .b1 47 400 (withB1 .established site) r w) ∧
    (∃ r w, HeightAccepted (arrival [1, 0, 0, 81, 47]) .b1 47 405 (twiceFar (withB1 .established site)) r w) ∧
    ((beam (siteIn .manual) .b0).state = .reference ∧ (siteIn .manual).ctl.state ≠ .auto) ∧
    ((beam site .b0).state = .reference ∧ site.ctl.state = .auto ∧
      nearLast .b0 (roundDiv (int2 0 100 * 20) 4) site = false ∧ (beam site .b0).rejects + 1 < site.params.jumpn) ∧
    (beam (withB1 .tracking site) .b1).state = .tracking :=
  ⟨by decide, ⟨_, _, .inl ⟨by decide, rfl, rfl⟩⟩, ⟨_, _, .inr ⟨by decide, by decide, rfl, rfl⟩⟩, by decide, by decide,
    by decide⟩

/-- UNSEEN and LOST with no height, ACQUIRING at one strike short of P_ACQ, in AUTO and not; a rebasing and a far strike
of an ACQUIRING beam. -/
theorem witness_AcquisitionOfBeam :
    ((arrival [1, 0, 0, 255, 47]).data = beamByte .b1 :: 0 :: 0 :: 255 :: 47 :: [] ∧ (int2 0 255).natAbs ≤ 255 ∧
      (beam State.reset .b1).state = .unseen ∧ State.reset.ctl.state ≠ .auto) ∧
    (∃ r w, HeightAccepted (arrival [1, 0, 0, 255, 47]) .b1 47 1275 State.reset r w) ∧
    ((beam (withB1 .lost State.reset) .b1).state = .lost ∧ (beam (withB1 .acquiring State.reset) .b1).state = .acquiring ∧
      nearLast .b1 (roundDiv (int2 0 81 * 20) 4) (withB1 .acquiring State.reset) = false ∧
      (beam (withB1 .acquiring State.reset) .b1).rejects + 1 < State.reset.params.jumpn) ∧
    (∃ r w, HeightAccepted (arrival [1, 0, 0, 81, 47]) .b1 47 405 (twiceFar (withB1 .acquiring State.reset)) r w) ∧
    ((beam busy .b1).state = .unseen ∧ busy.ctl.state = .auto ∧ ControlSound busy ∧
      ∃ r w, HeightAccepted (arrival [1, 0, 0, 81, 47]) .b1 47 405 busy r w) :=
  ⟨by decide, ⟨_, _, .inl ⟨by decide, rfl, rfl⟩⟩, by decide, ⟨_, _, .inr ⟨by decide, by decide, rfl, rfl⟩⟩,
    by decide, by decide, control_busy, _, _, .inl ⟨by decide, rfl, rfl⟩⟩

/-- A beam one sample short of P_OFS_N, its strike 150 and 151 ms after the reference's. -/
def collecting (now : Ms) : State := setBeam .b1
  ⟨some 46, some ⟨-345, 19900⟩, 0, some 19900, .tracking, 0, none, [414, 414, 414, 414, 414, 414, 414], none⟩
  { siteIn .manual with now := ⟨now, 0⟩ }

/-- HOLD with a FADING reference. -/
def fading : State := { siteIn .hold with
  beams := { resetBeams with e0 := { referenceAt 65 19600 with state := .fading, fade := some 20001 } } }

theorem witness_OffsetEstimation :
    BeamsSound (collecting 20060) ∧
    ((arrival [1, 0, 255, 187, 47]).data = beamByte .b1 :: 0 :: 255 :: 187 :: 47 :: [] ∧ (int2 255 187).natAbs ≤ 255 ∧
      (beam (collecting 20060) .b1).state = .tracking ∧ (beam (collecting 20060) .b0).state = .reference ∧
      (beam (collecting 20060) .b0).accepted = some ⟨65, 19910⟩ ∧ (beam (collecting 20060) .b0).offset = some 0) ∧
    (∃ r w, HeightAccepted (arrival [1, 0, 255, 187, 47]) .b1 47 (-345) (collecting 20060) r w) ∧
    (∃ r w, HeightAccepted (arrival [1, 0, 0, 187, 47]) .b1 47 935 (twiceFar (withB1 .tracking site)) r w) ∧
    (¬ (collecting 20060).params.pair < age 20060 19910 ∧ (collecting 20061).params.pair < age 20061 19910 ∧
      ((beam (collecting 20060) .b1).window ++ [65 + 0 - (-345)]).length = (collecting 20060).params.ofsN ∧
      (410 ∈ [414, 414, 414, 414, 414, 414, 414, (410 : Int)] ∧ (∀ y ∈ [414, 414, 414, 414, 414, 414, 414, (410 : Int)],
        410 ≤ y ∧ y ≤ 414))) ∧
    ((beam (withB1 .tracking site) .b1).window ++ [65 + 0 - (-345)]).length ≠ site.params.ofsN ∧
    ((∀ x, (beam (withB1 .tracking fading) x).state ≠ .reference) ∧
      (∀ x, (beam (withB1 .tracking State.reset) x).state ≠ .reference)) :=
  ⟨beamsSound_of (by decide) (by decide), by decide, ⟨_, _, .inl ⟨by decide, rfl, rfl⟩⟩,
    ⟨_, _, .inr ⟨by decide, by decide, rfl, rfl⟩⟩, by decide, by decide, fun x => by cases x <;> decide,
    fun x => by cases x <;> decide⟩

/-- The sample of a beam at −345 against 70 of the reference gives 415; the eighth of 414 each with it the mean 414. -/
theorem test_offset_established : seen (.strike (arrival [1, 0, 255, 187, 47])) (collecting 20060) (fun t =>
    (t.beams.e1.state, t.beams.e1.offset, t.events.latches.getLsbD 6)) = some (.established, some 414, true) := by decide

theorem witness_ReferenceStrikeInAuto : BeamsSound site ∧
    ((arrival [0, 0, 0, 14, 8]).data = beamByte .b0 :: 0 :: 0 :: 14 :: 8 :: [] ∧
      (arrival [0, 1, 0, 0, 8]).data = beamByte .b0 :: 1 :: 0 :: 0 :: 8 :: [] ∧
      (arrival [0, 2, 0, 0, 8]).data = beamByte .b0 :: 2 :: 0 :: 0 :: 8 :: [] ∧ site.ctl.state = .auto ∧
      (beam site .b0).state = .reference ∧ (beam site .b0).offset = some 0 ∧ site.store.tiltTable = some tableA ∧
      targetAt site.store.active site.chain.s = some (-374) ∧ (int2 0 14).natAbs ≤ 255) ∧
    (∃ r w, HeightAccepted (arrival [0, 0, 0, 14, 8]) .b0 8 70 site r w) ∧
    (∃ r w, HeightAccepted (arrival [0, 0, 0, 100, 8]) .b0 8 500 (setBeam .b0 { referenceAt 65 19910 with rejects := 2 } site)
      r w) :=
  ⟨sound_site, by decide, ⟨_, _, .inl ⟨by decide, rfl, rfl⟩⟩, ⟨_, _, .inr ⟨by decide, by decide, rfl, rfl⟩⟩⟩

theorem witness_FadingReferenceReturns :
    ((beam fading .b0).state = .fading ∧
      nearLast .b0 (roundDiv (int2 0 73 * 20) 4) fading = true ∧ nearLast .b0 (roundDiv (int2 0 74 * 20) 4) fading = false ∧
      (int2 0 74).natAbs ≤ 255 ∧ (beam fading .b0).rejects + 1 < fading.params.jumpn) ∧
    (∃ r w, HeightAccepted (arrival [0, 0, 0, 73, 8]) .b0 8 365 fading r w) ∧
    (∃ r w, HeightAccepted (arrival [0, 0, 0, 74, 8]) .b0 8 370
      (setBeam .b0 { beam fading .b0 with rejects := 2 } fading) r w) :=
  ⟨by decide, ⟨_, _, .inl ⟨by decide, rfl, rfl⟩⟩, ⟨_, _, .inr ⟨by decide, by decide, rfl, rfl⟩⟩⟩

/-- The return in HOLD: AUTO again, and the strike computes from a memory of 0. -/
theorem test_return_computes : seen (.strike (arrival [0, 0, 0, 14, 8])) fading (fun t =>
    (t.ctl.state, t.beams.e0.state, t.ctl.memory)) = some (.auto, .reference, 1000) := by decide

/-- Tilts of 9,000 and −9,000 centidegrees, the ends of the well-formed range. -/
theorem witness_TiltRecord : (arrival [35, 40, 0]).data = 35 :: 40 :: 0 :: [] ∧ (int2 35 40).natAbs ≤ 9000 ∧
    int2 35 40 = 9000 ∧ int2 220 216 = -9000 := by decide

theorem witness_ReferenceTimeout : BeamsSound site ∧ (beam site .b0).state = .reference ∧
    (∀ d, (beam State.reset d).state ≠ .reference) :=
  ⟨sound_site, by decide, fun d => by cases d <;> decide⟩

/-- Due at 401 ms after the fade time and not at 400; beams 1 and 2 ESTABLISHED with equal ages. -/
def lostReference (now : Ms) : State := { siteIn .hold with
  now := ⟨now, 0⟩
  beams := ⟨{ referenceAt 65 19600 with state := .fading, fade := some 20001 },
    ⟨none, some ⟨5, 20300⟩, 0, some 20300, .established, 0, some 414, [], none⟩,
    ⟨none, some ⟨5, 20300⟩, 0, some 20300, .established, 0, some 200, [], none⟩, resetBeam⟩ }

theorem witness_FadingTimeout : BeamsSound (lostReference 20402) ∧
    ((beam (lostReference 20402) .b0).state = .fading ∧
      (beam (lostReference 20402) .b0).lastStrike.any (fun t => 400 < age 20402 t) = true ∧
      (beam (lostReference 20402) .b0).fade.all (fun t => 400 < age 20402 t) = true ∧
      (beam (lostReference 20401) .b0).fade.all (fun t => 400 < age 20401 t) = false ∧
      (lostReference 20402).params.autoHandover = 1 ∧ (beam (lostReference 20402) .b1).state = .established) ∧
    (∀ d, (beam (lostReference 20402) d).state = .established → d ≠ .b1 → beamNat .b1 < beamNat d) ∧
    (∀ d, (beam fading d).state ≠ .established) ∧ (∀ d, (beam site d).state ≠ .fading) :=
  ⟨beamsSound_of (by decide) (by decide), by decide, fun d => by cases d <;> decide,
    fun d => by cases d <;> decide, fun d => by cases d <;> decide⟩

/-- At equal ages the lower code takes over (R36). -/
theorem test_automatic_handover : seen .fadingTimeout (lostReference 20402) (fun t =>
    (t.ctl.state, t.beams.e1.state, t.beams.e2.state)) = some (.auto, .reference, .established) := by decide

/-- Each case of a line's level against its accepted state, with and without a candidate. -/
theorem witness_LineFilters :
    (false = site.lines.dir.active) ∧ (true ≠ site.lines.dir.active ∧ site.lines.dir.since = none ∧
      ¬ (Line.dir = .odo ∧ site.params.odoFilt = 0)) ∧
    (true ≠ (LineFilter.mk true false (some ⟨20000, 0⟩)).active ∧
      (LineFilter.mk true false (some ⟨20000, 0⟩)).since.isSome = true) ∧
    (true ≠ site.lines.odo.active ∧ site.lines.odo.since = none ∧ { site.params with odoFilt := 0 }.odoFilt = 0) := by decide

/-- An ODO filter of 0 accepts the edge at the change. -/
theorem test_odo_filter_zero : seen (.lineLevelChange .odo true) { site with params := { defaultParams with odoFilt := 0 } }
    (fun t => (t.lines.odo, t.chain.s)) = some (⟨true, true, none⟩, 213467) := by decide

/-- 199 and 200 µs after the change; an edge that P_ODO_EDGE does not select, and one it does. -/
theorem witness_OdoEdgeInOrder :
    (some (Clock.mk 20009 801)).any (fun t => site.params.odoFilt ≤ age 20010 t.ms * 1000 + 0 - t.us) = false ∧
    (some (Clock.mk 20009 800)).any (fun t => site.params.odoFilt ≤ age 20010 t.ms * 1000 + 0 - t.us) = true ∧
    (site.params.odoEdge = .rising ∧ (LineFilter.mk true false (some ⟨20009, 800⟩)).active = false) ∧
    ¬ ((LineFilter.mk false true (some ⟨20009, 800⟩)).active = false) := by decide

/-- The ring with a number of records held, by its positions. -/
def heldRecords (n : BitVec 32) : Trace := ⟨n, 0, none, 0, [], true⟩

/-- The gate closed and open; 4,095 and 4,096 records held; a target; the streaming condition at 24 and 25 frames. -/
theorem witness_TraceCrossing :
    (site.params.traceGate = .line ∧ site.lines.dig.active = false) ∧
    ({ site.params with traceGate := .software }.traceGate = .software ∧ (heldRecords 4095).gateOpen = true) ∧
    ((heldRecords 4095).tail - (heldRecords 4095).mark.getD (heldRecords 4095).read).toNat < 4096 ∧
    4096 ≤ ((heldRecords 4096).tail - (heldRecords 4096).mark.getD (heldRecords 4096).read).toNat ∧
    targetAt site.store.active 213500 = some (-374) ∧
    ({ site.params with stream := .burst }.stream = .burst ∧ mayStream (queuedU 24 0 traced) ∧
      ¬ mayStream (queuedU 25 0 traced) ∧ ¬ mayStream site) := by
  unfold mayStream
  decide

/-- Two unread records leave in one TRACE_DATA frame of 45 bytes, sent as 48. -/
theorem test_burst : (burst { traced with params := { defaultParams with stream := .burst } }).portU.queue.map
    (fun q => (q.frame.data.length, q.frame.data.head?)) = [(48, some 2)] := by decide

/-- The STOP candidate at 20 and at 19 ms, and each test phase. -/
theorem witness_StopTrips :
    (site.lines.stop.active = false ∧ (some (Clock.mk 19990 0)).any (fun t => site.params.stopFilt ≤ age 20010 t.ms) = true) ∧
    (some (Clock.mk 19991 0)).any (fun t => site.params.stopFilt ≤ age 20010 t.ms) = false ∧
    site.test.phase = .idle ∧ waitingTest.test.phase = .waiting ⟨.raise, .b0, 200, 40000, 40000⟩ ∧
    (sixthStep 160).test.phase = .stepping ⟨.raise, .b0, 200, 40000, 41560⟩ 400 41570 41320 := by decide

theorem witness_OpenAndCloseRun : Carries (request [0, 76, 75, 64, 19, 136, 1]) [0, 76, 75, 64, 19, 136, 1] ∧
    (word4 0 76 75 64 = 5000000 ∧ int2 19 136 = 5000) ∧ Carries (request []) [] :=
  ⟨carries_request _ (by decide), by decide, carries_request _ (by decide)⟩

/-- D at both ends of 0 to 60,000 and beyond, a stale measurement, and each kind of entry. -/
theorem witness_BenchFixesDepth : Carries (request [1, 3]) [1, 3] ∧ Carries (request [0, 0]) [0, 0] ∧
    BeamsSound (toBench 19920) ∧ (BeamsSound fadingSite ∧ (beam fadingSite .b0).state = .fading) ∧
    (site.ctl.state ≠ .manual ∧ site.ctl.state ≠ .suspended) ∧ (toBench 19920).ctl.state = .manual ∧
    ((1 : Byte).getLsbD 0 = true ∧ 3 < (4 : Byte).toNat ∧ (3 : Byte) = beamByte .b3) ∧ (0 : Byte).getLsbD 0 = false ∧
    (∀ c, isRef (beam State.reset c) = false) ∧
    (isRef (beam (toBench 19920) .b0) = true ∧ (beam (toBench 19920) .b0).accepted = some ⟨200, 19920⟩ ∧
      (toBench 19920).store.tiltTable = some tableA ∧ age 20010 19610 ≤ 400 ∧ 400 < age 20010 19609 ∧
      targetAt (toBench 19920).store.active 100000 = some 0) ∧
    ((beam (toBench 19920) .b3).state = .unseen ∧ (beam (withB1 .tracking (toBench 19920)) .b1).state = .tracking ∧
      (beam (withB1 .established (toBench 19920)) .b1).state = .established) ∧ State.reset.store.tiltTable = none :=
  ⟨carries_request _ (by decide), carries_request _ (by decide), beamsSound_of (by decide) (by decide),
    ⟨beamsSound_of (by decide) (by decide), rfl⟩, by decide,
    by decide, by decide, by decide, fun c => by cases c <;> decide, by decide, by decide, rfl⟩

/-- Depths 0, 60,000 and beyond each. -/
theorem witness_SetDepthClamps : Carries (request [0, 0, 234, 97]) [0, 0, 234, 97] ∧
    (int4 0 0 234 97 = 60001 ∧ int4 0 0 234 96 = 60000 ∧ int4 255 255 255 255 = -1) ∧
    (site.ctl.state ≠ .manual ∧ site.ctl.state ≠ .suspended) ∧
    (toBench 19920).ctl.state = .manual ∧ isRef (beam (toBench 19920) .b0) = true ∧
    (∀ c, isRef (beam State.reset c) = false) :=
  ⟨carries_request _ (by decide), by decide, by decide, by decide, by decide, fun c => by cases c <;> decide⟩

/-- Ready in MANUAL and in SUSPENDED, and not ready unbenched. -/
theorem witness_ModeRequests : Carries (request [1]) [1] ∧ Carries (request [0]) [0] ∧ Carries (request [2]) [2] ∧
    Carries (request []) [] ∧ BeamsSound (siteIn .manual) ∧ BeamsSound (siteIn .suspended) ∧
    ((siteIn .manual).ctl.state = .manual ∧ (siteIn .suspended).ctl.state = .suspended ∧
      (siteIn .manual).run.benched = true ∧ (siteIn .manual).tilt.fresh = true ∧
      (siteIn .manual).store.tiltTable.isSome = true ∧ (beam (siteIn .manual) .b0).state = .reference ∧
      (beam (siteIn .manual) .b0).accepted = some ⟨65, 19910⟩ ∧ age 20010 19910 ≤ (siteIn .manual).params.strikeTmo) ∧
    BeamsSound (toBench 19920) ∧ (toBench 19920).run.benched ≠ true :=
  ⟨carries_request _ (by decide), carries_request _ (by decide), carries_request _ (by decide), carries_request _ (by decide),
    beamsSound_of (by decide) (by decide), beamsSound_of (by decide) (by decide), by decide,
    beamsSound_of (by decide) (by decide), by decide⟩

theorem witness_HandoverAndAdopt : Carries (request [3]) [3] ∧ Carries (request [4]) [4] ∧
    Carries (request [3, 0, 0, 25, 1]) [3, 0, 0, 25, 1] ∧ Carries (request [4, 0, 0, 25, 1]) [4, 0, 0, 25, 1] ∧
    ((3 : Byte) = beamByte .b3 ∧ 3 < (4 : Byte).toNat ∧ int4 0 0 25 1 = 6401) ∧
    (beam (withB1 .established site) .b1).state = .established ∧ (beam site .b1).state ≠ .established :=
  ⟨carries_request _ (by decide), carries_request _ (by decide), carries_request _ (by decide), carries_request _ (by decide),
    by decide, by decide, by decide⟩

/-- The opposite direction 119 and 120 ms ago at P_DWELL 120, and never; currents 0 and above, a demand the map turns
into a current. -/
theorem witness_ChannelWritesAndEmission :
    ((DepthValue.demand .raise 10000) = (if false then .test .raise 10000 else .demand .raise 10000) ∧
      (DepthValue.test .raise 0) = (if true then .test .raise 0 else .demand .raise 0)) ∧
    (some (19891 : Ms)).any (fun t => age 20010 t < site.params.dwell) = true ∧
    (some (19890 : Ms)).all (fun t => site.params.dwell ≤ age 20010 t) = true ∧
    (none : Option Ms).all (fun t => site.params.dwell ≤ age 20010 t) = true ∧
    (site.store.raiseMap = some mapA ∧ mapCurrent mapA 10000 = some 900) ∧ site.depth.held = .neutral := by decide

/-- The case of the dwell gate: RAISE 119 ms after LOWER leaves as NEUTRAL with the memory at 0. -/
theorem test_dwell_gate : (emitDepth { site with
    depth := { resetDepth with held := .demand .raise 4000, lastLower := some 19891 } }).portD.depthSlot.map
      (fun f => f.data) = some [0, 0, 0, 0] ∧
    (emitDepth { site with
      depth := { resetDepth with held := .demand .raise 4000, lastLower := some 19890 } }).portD.depthSlot.map
      (fun f => f.data) = some [1, 2, 28, 0] := by decide

/-- Each case of a tick's state, mode, mark and fresh flag; a decay to 800 and one to 799 at P_UMIN 800. -/
theorem witness_OutputTicks :
    (siteIn .manual).ctl.state = .manual ∧ (siteIn .tripped).ctl.state = .tripped ∧
    (site.ctl.state ≠ .standby ∧ site.ctl.state ≠ .manual ∧ site.ctl.state ≠ .tripped) ∧
    ({ site.params with modeDepth := .immediate }.modeDepth = .immediate ∧ { resetDepth with emitted := true }.emitted = true ∧
      resetDepth.emitted = false) ∧
    (site.params.modeDepth ≠ .immediate ∧ { resetDepth with fresh := true, waiting := some .neutral }.fresh = true ∧
      { resetDepth with fresh := true, waiting := some .neutral }.waiting = some .neutral ∧ resetDepth.fresh = false) ∧
    ({ resetDepth with held := .demand .lower 1600 }.held = .demand .lower 1600 ∧
      1600 * (10000 - site.params.decay) / 10000 = site.params.umin ∧
      1599 * (10000 - site.params.decay) / 10000 < site.params.umin) ∧
    (site.params.modeTravel = .synchronous ∧ { site.params with modeTravel := .immediate }.modeTravel = .immediate ∧
      { resetTravel with fresh := true, waiting := some ⟨0, .test⟩ }.waiting = some ⟨0, .test⟩ ∧
      { resetTravel with emitted := true }.emitted = true ∧ resetTravel.emitted = false ∧ resetTravel.fresh = false) ∧
    (site.params.stream ≠ .intermittent ∧ { site.params with stream := .intermittent }.stream = .intermittent) ∧
    (site.tick.mode = .internalTicks ∧ TickMode.fallback ≠ .internalTicks ∧ TickMode.syncFrames ≠ .internalTicks) ∧
    (mayStream (queuedU 24 0 traced) ∧ ¬ mayStream (queuedU 25 0 traced)) := by
  unfold mayStream
  decide

/-- Ages of 400 and 401 ms; a reference, and a TRACKING beam with none; currents 0, 1, i_1 and i_1 + 1. -/
theorem witness_TestStartAndApply : Carries (request [2]) [2] ∧ Carries (request [3]) [3] ∧ Carries (request []) [] ∧
    BeamsSound (siteIn .manual) ∧ BeamsSound (withB1 .tracking State.reset) ∧
    (BeamsSound fadingSite ∧ isRef (beam fadingSite .b0) = true ∧ (beam fadingSite .b0).state = .fading) ∧
    (site.ctl.state ≠ .standby ∧ site.ctl.state ≠ .manual) ∧ (siteIn .manual).ctl.state = .manual ∧
    ({ defaultParams with vtMax := 99 }.vtMax < { defaultParams with vtMax := 99 }.vtStart ∧
      { defaultParams with vtMax := 100 }.vtStart ≤ { defaultParams with vtMax := 100 }.vtMax) ∧
    (isRef (beam (siteIn .manual) .b0) = true ∧ (beam (siteIn .manual) .b0).accepted = some ⟨65, 19910⟩ ∧
      age 20310 19910 ≤ 400 ∧ 400 < age 20311 19910) ∧
    (∀ d, isRef (beam (withB1 .tracking State.reset) d) = false) ∧
    (beam (withB1 .tracking State.reset) .b1).state = .tracking ∧
    (∀ c, isRef (beam State.reset c) = false ∧ ¬ ((beam State.reset c).state = .tracking ∨ (beam State.reset c).state = .established)) ∧
    (site.store.raiseMap = some (⟨0, 310⟩ :: ⟨2000, 420⟩ :: [⟨5000, 600⟩, ⟨10000, 900⟩]) ∧ State.reset.store.lowerMap = none ∧
      0 < 420 ∧ 420 ≤ 420 ∧ 420 < 421) :=
  ⟨carries_request _ (by decide), carries_request _ (by decide), carries_request _ (by decide),
    beamsSound_of (by decide) (by decide), beamsSound_of (by decide) (by decide),
    ⟨beamsSound_of (by decide) (by decide), by decide⟩, by decide, by decide, by decide, by decide,
    fun d => by cases d <;> decide, by decide, fun c => by cases c <;> decide, by decide⟩

/-- Both phases in both prior states; the timer's moment and the one before; movements of 30 each way and 29; the last
step current. -/
theorem witness_TestEvents :
    (waitingTest.ctl.state = .test ∧ waitingTest.ctl.prior = some .manual ∧
      waitingTest.test.phase = .waiting ⟨.raise, .b0, 200, 40000, 40000⟩ ∧ dwellPassed .raise waitingTest = true ∧
      dwellPassed .raise { waitingTest with now := ⟨40069, 0⟩ } = false) ∧
    ((sixthStep 170).test.phase = .stepping ⟨.raise, .b0, 200, 40000, 41560⟩ 400 41570 41320 ∧
      (beam (sixthStep 170) .b0).accepted = some ⟨170, 41560⟩ ∧ age 41570 41320 ≤ age 41570 41320 ∧
      age 41569 41320 < age 41570 41320 ∧ 30 ≤ (200 : Int) - 170 ∧ ¬ (30 ≤ (200 : Int) - 171) ∧ (200 : Int) - 230 ≤ -30) ∧
    (1195 + defaultParams.vtStep ≤ defaultParams.vtMax ∧ ¬ 1196 + defaultParams.vtStep ≤ defaultParams.vtMax) ∧
    Carries (request []) [] ∧ site.test.phase = .idle :=
  ⟨by decide, by decide, by decide, carries_request _ (by decide), rfl⟩

/-- Identifiers 1, 48 and 49; an enumerated value at and beyond its codes; a numeric value at, below and above its
range; a run-fixed parameter. -/
theorem witness_ParameterWrite : Carries (request [16, 0, 0, 19, 137]) [16, 0, 0, 19, 137] ∧
    (paramKind 0 = none ∧ paramKind 49 = none) ∧ (1 ∈ [1, 2, 13, 36] ∧ site.run.isOpen = true) ∧
    (paramKind 14 = some (.enumerated 3) ∧ (3 : Int) ≤ int4 0 0 0 3 ∧ int4 0 0 0 2 < 3 ∧ int4 255 255 255 255 < 0) ∧
    (¬ (16 ∈ [1, 2, 13, 36] ∧ site.run.isOpen = true) ∧ paramKind 16 = some (.numeric 0 5000) ∧
      ((5000 : Nat) : Int) = max ((0 : Nat) : Int) (min (int4 0 0 19 137) ((5000 : Nat) : Int)) ∧
      ((0 : Nat) : Int) = max ((0 : Nat) : Int) (min (int4 255 255 255 255) ((5000 : Nat) : Int))) :=
  ⟨carries_request _ (by decide), by decide, by decide, by decide, by decide⟩

/-- Kinds 3 and 4; each session state; capacities met; values at and beyond their ranges. -/
theorem witness_LoadSession : Carries (request [3]) [3] ∧ Carries (request [4]) [4] ∧
    ((3 : Byte) = kindByte .valveLower ∧ 3 < (4 : Byte).toNat) ∧
    (site.store.session = none ∧ site.store.takeover = none ∧
      { site.store with takeover := some 250000 }.takeover.isSome = true ∧
      { site.store with session := some ⟨.valveLower, 8⟩ }.session = some ⟨.valveLower, 8⟩) ∧
    (Carries (request [39, 17, 0, 1]) [39, 17, 0, 1] ∧ [39, 17, 0, 1].length = entryLength .valveLower ∧
      capacity .valveLower ≤ 8 ∧ 7 < capacity .valveLower ∧ word2 39 16 = 10000 ∧ word2 39 17 = 10001) ∧
    (Carries (request [7, 208]) [7, 208] ∧ (int2 7 208).natAbs ≤ 2000 ∧ 2000 < (int2 7 209).natAbs) ∧
    (word4 0 76 75 64 ≤ 5000000 ∧ ¬ word4 0 76 75 65 ≤ 5000000) :=
  ⟨carries_request _ (by decide), carries_request _ (by decide), by decide, by decide,
    ⟨carries_request _ (by decide), by decide⟩, ⟨carries_request _ (by decide), by decide⟩, by decide⟩

/-- A staged profile, table and map with their sessions, a run closed and open, a count off by one. -/
theorem witness_LoadCommit : Carries (request [0, 3, 0, 3, 208, 144]) [0, 3, 0, 3, 208, 144] ∧
    (word2 0 3 = profileA.entries.length ∧ word4 0 3 208 144 = 250000 ∧ site.chain.s < 250000 ∧ 250000 ≤ 5000000) ∧
    (profileA.entries ≠ [] ∧ profileA.entries.head?.map (fun e => e.start) = some 0 ∧
      (∀ b ∈ baseOffsets 100 profileA.entries, -200000000 ≤ b ∧ b ≤ 200000000)) ∧
    (site.run.isOpen = true ∧ State.reset.run.isOpen = false ∧ site.store.session = none) ∧
    ((siteIn .hold).ctl.state = .hold ∧ (siteIn .manual).ctl.state ≠ .auto ∧ (siteIn .manual).ctl.state ≠ .hold ∧
      (siteIn .manual).ctl.state ≠ .test) :=
  ⟨carries_request _ (by decide), by decide, by decide, by decide, by decide⟩

theorem witness_Reports : Carries (request [48]) [48] ∧ Carries (request [3, 0, 3]) [3, 0, 3] ∧
    Carries (request [4, 0, 0]) [4, 0, 0] ∧ Carries (request []) [] ∧
    (profileA.entries[2]? = some ⟨300000, 150, some 250, none⟩ ∧ profileA.offsets[2]? = some (-4700000) ∧
      profileA.entries.length ≤ 3 ∧ State.reset.store.active.entries = [] ∧ State.reset.store.tiltTable = none ∧
      site.store.tiltTable = some tableA ∧ site.store.active.entries ≠ [] ∧ 3 < (4 : Byte).toNat) :=
  ⟨carries_request _ (by decide), carries_request _ (by decide), carries_request _ (by decide), carries_request _ (by decide),
    by decide⟩

theorem witness_PowerOnAndReset : Carries (request []) [] := carries_request _ (by decide)

/-- Each test phase. -/
theorem witness_ClearRun : Carries (request []) [] ∧ site.test.phase = .idle ∧
    waitingTest.test.phase = .waiting ⟨.raise, .b0, 200, 40000, 40000⟩ ∧
    (sixthStep 160).test.phase = .stepping ⟨.raise, .b0, 200, 40000, 41560⟩ 400 41570 41320 :=
  ⟨carries_request _ (by decide), by decide⟩

/-- Direction 2 and demand 10,000, demand 0, and every group of control states. -/
theorem witness_ManualValveGate : (arrival [2, 39, 16]).data = 2 :: 39 :: 16 :: [] ∧ ((2 : Byte).toNat ≤ 2 ∧
      word2 39 16 ≤ 10000 ∧ (2 : Byte) ≠ 0 ∧ 0 < word2 39 16 ∧ ¬ 0 < word2 0 0) ∧
    ((siteIn .manual).ctl.state = .manual ∧ (siteIn .hold).ctl.state = .hold ∧ waitingTest.ctl.state = .test ∧
      waitingTest.ctl.prior = some .manual ∧ (siteIn .tripped).ctl.state = .tripped) := by decide

theorem witness_TraceRequests : Carries (request []) [] ∧ Carries (request [1]) [1] ∧ Carries (request [2]) [2] ∧
    site.trace.mark = none ∧ traced.trace.mark = some 0 :=
  ⟨carries_request _ (by decide), carries_request _ (by decide), carries_request _ (by decide), by decide⟩

/-- Index 23 and 24, codes at their ends and beyond, a value of 29 bits and one of 30, a mask of 28 bits and one of 29. -/
theorem witness_ReportSettings :
    Carries (request [23, 1, 2, 1, 31, 255, 255, 255, 31, 255, 255, 255]) [23, 1, 2, 1, 31, 255, 255, 255, 31, 255, 255, 255] ∧
    (word4 31 255 255 255 < 2 ^ 29 ∧ ¬ word4 32 0 0 0 < 2 ^ 29) ∧ Carries (request [15, 255, 255, 255]) [15, 255, 255, 255] ∧
    (word4 15 255 255 255 < 2 ^ 28 ∧ ¬ word4 16 0 0 0 < 2 ^ 28) ∧ Carries (request []) [] :=
  ⟨carries_request _ (by decide), by decide, carries_request _ (by decide), by decide, carries_request _ (by decide)⟩

end Sys2Proof.Tests
end

section
/-! The idle step: which expiries are due, and what the part does when no command waits (R1, R61; log 1, log 2,
log 38). -/

namespace Sys2Proof.Machine

/-! ## Which expiries are due -/

/-- A candidate of a line is due when one is held and its filter time has passed (R61). -/
theorem filterDue_eq_any (l : Line) (s : State) :
    filterDue l s = (lineOf s l).since.any (fun t => filterPassed l t s) := by
  unfold filterDue
  cases (lineOf s l).since <;> rfl

/-- The model's expiry condition of an entry is the statements' one (R25, R26, R28). -/
theorem silent_beam_iff (c : BeamCode) (s : State) : silent (beam s c) s = true ↔ strikeExpired c s := by
  unfold silent strikeExpired
  cases (beam s c).lastStrike <;> cases (beam s c).fade <;> simp

theorem expiryDue_odo (s : State) : ExpiryDue s .acceptedOdoEdge ↔ filterDue .odo s = true := by
  rw [filterDue_eq_any]; rfl

theorem expiryDue_dir (s : State) : ExpiryDue s .acceptedDirChange ↔ filterDue .dir s = true := by
  rw [filterDue_eq_any]; rfl

theorem expiryDue_dig (s : State) : ExpiryDue s .acceptedDigChange ↔ filterDue .dig s = true := by
  rw [filterDue_eq_any]; rfl

/-- The STOP filter's expiry is the acceptance of ACTIVE on an INACTIVE line (R61, R65). -/
theorem expiryDue_stopActive (s : State) :
    ExpiryDue s .stopAcceptedActive ↔ filterDue .stop s = true ∧ .stopAcceptedActive = stopExpiry s := by
  rw [filterDue_eq_any, and_comm]
  refine and_congr ?_ Iff.rfl
  unfold stopExpiry
  cases s.lines.stop.active <;> simp

/-- The STOP filter's expiry is the release on an ACTIVE line (R61, R65). -/
theorem expiryDue_stopRelease (s : State) :
    ExpiryDue s .stopRelease ↔ filterDue .stop s = true ∧ .stopRelease = stopExpiry s := by
  rw [filterDue_eq_any, and_comm]
  refine and_congr ?_ Iff.rfl
  unfold stopExpiry
  cases s.lines.stop.active <;> simp

theorem expiryDue_strike (c : BeamCode) (s : State) :
    ExpiryDue s (.strikeTimeout c) ↔ strikeTimeoutDue c s = true := by
  simp [ExpiryDue, strikeTimeoutDue, silent_beam_iff, or_assoc]

/-- The reference's timeout in one of its two states (R26, R28). -/
theorem refTimeoutDue_iff (st : BeamState) (s : State) :
    refTimeoutDue st s = true ↔ ∃ c, reference s = some c ∧ (beam s c).state = st ∧ strikeExpired c s := by
  unfold refTimeoutDue
  cases reference s <;> simp [silent_beam_iff]

theorem expiryDue_reference (s : State) : ExpiryDue s .referenceTimeout ↔ refTimeoutDue .reference s = true :=
  (refTimeoutDue_iff .reference s).symm

theorem expiryDue_fading (s : State) : ExpiryDue s .fadingTimeout ↔ refTimeoutDue .fading s = true :=
  (refTimeoutDue_iff .fading s).symm

theorem expiryDue_tilt (s : State) : ExpiryDue s .tiltExpiry ↔ tiltDue s = true := by
  unfold ExpiryDue tiltDue
  cases s.tilt.arrival <;> simp

theorem expiryDue_tick (s : State) : ExpiryDue s .outputTick ↔ tickDue s = true := by
  simp [ExpiryDue, tickDue, reached]

theorem expiryDue_sync (s : State) : ExpiryDue s .syncTimeout ↔ syncDue s = true := by
  simp [ExpiryDue, syncDue]

/-- The reversal dwell of the model is the statements' one (R123). -/
theorem dwellClear_eq_dwellPassed (d : Dir) (s : State) : dwellClear d s = dwellPassed d s := by
  unfold dwellClear dwellPassed
  cases d
  · cases s.depth.lastLower <;> rfl
  · cases s.depth.lastRaise <;> rfl

theorem expiryDue_dwell (s : State) : ExpiryDue s .dwellClearMoment ↔ dwellDue s = true := by
  unfold ExpiryDue dwellDue
  cases s.test.phase <;> simp [dwellClear_eq_dwellPassed]

theorem expiryDue_stepTimer (s : State) : ExpiryDue s .stepTimerExpiry ↔ stepDue s = true := by
  unfold ExpiryDue stepDue
  cases s.test.phase <;> simp [reached]

theorem expiryDue_noBeam (s : State) : ExpiryDue s .noBeamTimeout ↔ noBeamDue s = true := by
  unfold ExpiryDue noBeamDue
  cases testRun s <;> simp

/-! ## The list of the due expiries -/

/-- The sixteen expiries in the order in which the model lists them, each with whether it is due. -/
def expiries (s : State) : List (Bool × Instr) :=
  [(filterDue .odo s, .acceptedOdoEdge), (filterDue .dir s, .acceptedDirChange),
    (filterDue .dig s, .acceptedDigChange), (filterDue .stop s, stopExpiry s),
    (strikeTimeoutDue .b0 s, .strikeTimeout .b0), (strikeTimeoutDue .b1 s, .strikeTimeout .b1),
    (strikeTimeoutDue .b2 s, .strikeTimeout .b2), (strikeTimeoutDue .b3 s, .strikeTimeout .b3),
    (refTimeoutDue .reference s, .referenceTimeout), (refTimeoutDue .fading s, .fadingTimeout),
    (tiltDue s, .tiltExpiry), (tickDue s, .outputTick), (syncDue s, .syncTimeout),
    (dwellDue s, .dwellClearMoment), (stepDue s, .stepTimerExpiry), (noBeamDue s, .noBeamTimeout)]

theorem whenDue_eq (due : Bool) (c : Instr) : whenDue due c = ([(due, c)].filter Prod.fst).map Prod.snd := by
  cases due <;> rfl

/-- The due events are the commands of the expiries that are due. -/
theorem dueEvents_eq (s : State) : dueEvents s = ((expiries s).filter Prod.fst).map Prod.snd := by
  simp only [dueEvents, whenDue_eq, ← List.map_append, ← List.filter_append, List.cons_append,
    List.nil_append, expiries]

theorem stopExpiry_cases (s : State) : stopExpiry s = .stopRelease ∨ stopExpiry s = .stopAcceptedActive := by
  unfold stopExpiry
  cases s.lines.stop.active <;> simp

/-- No expiry has two places in the list. -/
theorem dueEvents_nodup (s : State) : (dueEvents s).Nodup := by
  have all : ((expiries s).map Prod.snd).Nodup := by
    simp only [expiries, List.map_cons, List.map_nil]
    obtain h | h := stopExpiry_cases s <;> rw [h] <;> decide
  rw [dueEvents_eq]
  exact all.sublist (List.filter_sublist.map _)

theorem mem_dueEvents (s : State) (c : Instr) : c ∈ dueEvents s ↔ (true, c) ∈ expiries s := by
  simp [dueEvents_eq]

/-- A command is listed exactly when it is an expiry whose moment has come. -/
theorem mem_dueEvents_iff (s : State) (c : Instr) : c ∈ dueEvents s ↔ ExpiryDue s c := by
  have stop : ∀ e : Instr, e ≠ .stopRelease → e ≠ .stopAcceptedActive → e ≠ stopExpiry s := by
    intro e hr ha
    obtain h | h := stopExpiry_cases s <;> rw [h] <;> assumption
  rw [mem_dueEvents]
  cases c with
  | acceptedOdoEdge => simp [expiries, expiryDue_odo, stop]
  | acceptedDirChange => simp [expiries, expiryDue_dir, stop]
  | acceptedDigChange => simp [expiries, expiryDue_dig, stop]
  | stopAcceptedActive => simp [expiries, expiryDue_stopActive]
  | stopRelease => simp [expiries, expiryDue_stopRelease]
  | strikeTimeout c => cases c <;> simp [expiries, expiryDue_strike, stop]
  | referenceTimeout => simp [expiries, expiryDue_reference, stop]
  | fadingTimeout => simp [expiries, expiryDue_fading, stop]
  | tiltExpiry => simp [expiries, expiryDue_tilt, stop]
  | outputTick => simp [expiries, expiryDue_tick, stop]
  | syncTimeout => simp [expiries, expiryDue_sync, stop]
  | dwellClearMoment => simp [expiries, expiryDue_dwell, stop]
  | stepTimerExpiry => simp [expiries, expiryDue_stepTimer, stop]
  | noBeamTimeout => simp [expiries, expiryDue_noBeam, stop]
  | _ => simp [expiries, ExpiryDue, stop]

/-! ## The order in which they join, and the step -/

theorem putAt_perm (n : Nat) (x : Instr) (l : List Instr) : (putAt n x l).Perm (x :: l) := by
  have h : (putAt n x l).Perm (x :: (l.take n ++ l.drop n)) := List.perm_middle
  rwa [List.take_append_drop] at h

/-- Whatever the free number, the arranged list holds the same commands as often (log 2). -/
theorem arrange_perm (k : Nat) (l : List Instr) : (arrange k l).Perm l := by
  induction k, l using arrange.induct with
  | case1 k => exact .refl _
  | case2 k x => exact .refl _
  | case3 k x y rest n ih => exact (putAt_perm _ _ _).trans (ih.cons x)

theorem step_of_empty {s : State} (h : s.pending = []) : step s = .next (idle s) := by
  simp [step, h]

theorem idle_of_none_due {s : State} (h : dueEvents s = []) : idle s = { s with now := tickClock s.now } := by
  simp [idle, h]

theorem idle_of_due {s : State} (h : dueEvents s ≠ []) :
    idle s = { s with pending := arrange (Config.dueOrder s.choice) (dueEvents s), choice := s.choice + 1 } := by
  unfold idle
  cases hd : dueEvents s with
  | nil => exact absurd hd h
  | cons e es => rfl

end Sys2Proof.Machine

namespace Sys2Proof.Scope

open Machine

/-- Settles O2: the due events are the expiries of the rules, and `arrange` permutes them. -/
theorem idleStep : Obligations.IdleStep := by
  intro s
  refine ⟨mem_dueEvents_iff s, dueEvents_nodup s, fun hp => ⟨fun hnone => ?_, fun ⟨c, hc⟩ => ?_⟩⟩
  · have hd : dueEvents s = [] :=
      List.eq_nil_iff_forall_not_mem.mpr fun c hm => hnone c ((mem_dueEvents_iff s c).mp hm)
    rw [step_of_empty hp, idle_of_none_due hd]
    rfl
  · have hd : dueEvents s ≠ [] := List.ne_nil_of_mem ((mem_dueEvents_iff s c).mpr hc)
    exact ⟨_, arrange_perm _ _, by rw [step_of_empty hp, idle_of_due hd]⟩

end Sys2Proof.Scope
end

section
/-! Rounding half away from zero (R2) and the tilt correction (R16). -/

namespace Sys2Proof.Machine

/-! ## Rounding -/

/-- On numbers from 0 the rounded quotient q has n − d/2 < d q ≤ n + d/2. -/
theorem roundDiv_of_nonneg {n : Int} {d : Nat} (hd : 0 < d) (hn : 0 ≤ n) :
    2 * (d * roundDiv n d) ≤ 2 * n + d ∧ 2 * n < 2 * (d * roundDiv n d) + d := by
  have lower := Int.mul_ediv_self_le (x := 2 * n + d) (k := 2 * d) (by omega)
  have upper := Int.lt_mul_ediv_self_add (x := 2 * n + d) (k := 2 * d) (by omega)
  rw [roundDiv, if_pos hn]
  rw [mul_assoc] at lower upper
  omega

/-- Rounding commutes with the change of sign. -/
theorem roundDiv_of_neg {n : Int} (d : Nat) (hn : n < 0) : roundDiv n d = -roundDiv (-n) d := by
  rw [roundDiv, roundDiv, if_neg (by omega), if_pos (by omega)]

/-- The rounded quotient is the nearest integer, and at an exact half the one of greater magnitude (R2). -/
theorem roundDiv_nearest (n : Int) {d : Nat} (hd : 0 < d) :
    2 * ((d : Int) * roundDiv n d - n).natAbs ≤ d ∧
    (2 * ((d : Int) * roundDiv n d - n).natAbs = d → n.natAbs < ((d : Int) * roundDiv n d).natAbs) := by
  obtain hn | hn := le_or_gt 0 n
  · obtain ⟨lower, upper⟩ := roundDiv_of_nonneg hd hn
    omega
  · obtain ⟨lower, upper⟩ := roundDiv_of_nonneg (n := -n) hd (by omega)
    rw [roundDiv_of_neg d hn, mul_neg]
    omega

/-- A number up to a multiple of d has its rounded quotient up to that multiple's factor. -/
theorem roundDiv_le {n m : Int} {d : Nat} (hd : 0 < d) (h : n ≤ d * m) : roundDiv n d ≤ m := by
  obtain ⟨near, -⟩ := roundDiv_nearest n hd
  have : (d : Int) * roundDiv n d < d * (m + 1) := by rw [mul_add]; omega
  have := Int.lt_of_mul_lt_mul_left this (by omega)
  omega

/-- A number from a multiple of d on has its rounded quotient from that multiple's factor on. -/
theorem le_roundDiv {n m : Int} {d : Nat} (hd : 0 < d) (h : d * m ≤ n) : m ≤ roundDiv n d := by
  obtain ⟨near, -⟩ := roundDiv_nearest n hd
  have : (d : Int) * (m - 1) < d * roundDiv n d := by rw [mul_sub]; omega
  have := Int.lt_of_mul_lt_mul_left this (by omega)
  omega

/-- A rounded part f / d of the way from a to b does not leave the two. -/
theorem interpolated_between (a b : Int) {f d : Nat} (hd : 0 < d) (hf : f ≤ d) :
    min a b ≤ a + roundDiv ((b - a) * f) d ∧ a + roundDiv ((b - a) * f) d ≤ max a b := by
  have hf' : (f : Int) ≤ d := by exact_mod_cast hf
  obtain h | h := le_total a b
  · have low : 0 ≤ roundDiv ((b - a) * f) d := le_roundDiv hd (by nlinarith)
    have high : roundDiv ((b - a) * f) d ≤ b - a := roundDiv_le hd (by nlinarith)
    omega
  · have low : b - a ≤ roundDiv ((b - a) * f) d := le_roundDiv hd (by nlinarith)
    have high : roundDiv ((b - a) * f) d ≤ 0 := roundDiv_le hd (by nlinarith)
    omega

/-! ## The tilt correction -/

/-- The index and the part of a tilt θ with θ + 1,200 = 100 i + f (R16). -/
theorem tilt_index {theta : Int} {i f : Nat} (hx : theta + 1200 = 100 * (i : Int) + f) (hf : f < 100) :
    (theta + 1200).toNat / 100 = i ∧ (theta + 1200).toNat % 100 = f := by
  omega

/-- At index 24 the correction is the last entry (R16). -/
theorem correction_last {table : List Int} {theta a : Int} (hx : theta = 1200) (ha : table[24]? = some a) :
    correction table theta = a := by
  subst hx
  simp [correction, ha]

/-- Below index 24 the correction is the entry and the rounded part of the way to the next (R16). -/
theorem correction_interior {table : List Int} {theta a b : Int} {i f : Nat} (hi : i ≠ 24)
    (hx : theta + 1200 = 100 * (i : Int) + f) (hf : f < 100) (ha : table[i]? = some a)
    (hb : table[i + 1]? = some b) : correction table theta = a + roundDiv ((b - a) * f) 100 := by
  obtain ⟨hq, hr⟩ := tilt_index hx hf
  simp only [correction, hq, hr, if_neg hi, List.getD_eq_getElem?_getD, ha, hb, Option.getD_some]

end Sys2Proof.Machine

namespace Sys2Proof.Scope

open Machine

/-- Settles O22: a rounded quotient is nearest, so the rounded part of the way stays between the entries. -/
theorem tiltCorrectionInterpolates : Obligations.TiltCorrectionInterpolates := by
  refine ⟨fun n d hd => roundDiv_nearest n hd, fun table theta i f hlen hx hf => ⟨?_, fun a b ha hb => ?_⟩⟩
  · intro a hi hf0 ha
    exact correction_last (by omega) ha
  · obtain ⟨hlt, -⟩ := List.getElem?_eq_some_iff.mp hb
    rw [correction_interior (by omega) hx hf ha hb]
    obtain ⟨low, high⟩ := interpolated_between a b (d := 100) (by decide) hf.le
    exact ⟨rfl, low, high, fun h0 => by subst h0; simp [roundDiv]⟩

end Sys2Proof.Scope
end

section
/-! Power-on, the master reset and RESET (R1, R62, R96, R130, R157, R172, R173, R186, R188, R190). -/

namespace Sys2Proof.Machine

/-! ## The lines at a reset -/

/-- A line's filter right after a reset: the accepted state INACTIVE, and a candidate exactly where the level stands for
ACTIVE (R62). -/
def freshFilter (l : Line) (high : Bool) (now : Clock) : LineFilter :=
  ⟨high, false, if levelActive l high = true then some now else none⟩

theorem setLine_lineOf (l : Line) (s : State) : setLine l (lineOf s l) s = s := by
  cases l <;> rfl

/-- At a line without a candidate, and an ODO filter time other than 0, `startCandidate` changes that line alone. -/
theorem startCandidate_of_reset {l : Line} {s : State} {high : Bool} (hl : lineOf s l = resetFilter high)
    (hf : s.params.odoFilt ≠ 0) : startCandidate l s = setLine l (freshFilter l high s.now) s := by
  cases ha : levelActive l high with
  | true => simp [startCandidate, hl, hf, resetFilter, freshFilter, ha]
  | false =>
    have : freshFilter l high s.now = lineOf s l := by simp [freshFilter, ha, hl, resetFilter]
    rw [this, setLine_lineOf]
    simp [startCandidate, hl, resetFilter, ha]

/-- The lines after a reset at a moment: the levels as they are, each filter fresh (R62). -/
def freshLines (l : Lines) (now : Clock) : Lines :=
  ⟨freshFilter .odo l.odo.high now, freshFilter .dir l.dir.high now,
    freshFilter .dig l.dig.high now, freshFilter .stop l.stop.high now⟩

theorem startAll_of_reset {s : State} {l : Lines} (hl : s.lines = resetLines l) (hp : s.params = defaultParams) :
    startAll s = { s with lines := freshLines l s.now } := by
  have hf : s.params.odoFilt ≠ 0 := by rw [hp]; decide
  unfold startAll
  rw [startCandidate_of_reset (l := .odo) (high := l.odo.high),
    startCandidate_of_reset (l := .dir) (high := l.dir.high),
    startCandidate_of_reset (l := .dig) (high := l.dig.high),
    startCandidate_of_reset (l := .stop) (high := l.stop.high)]
  · rfl
  all_goals simp [lineOf, setLine, resetLines, hl, hf]

/-! ## The three resets -/

/-- Power-on (R1, R96, R172, R188; log 7, log 24). -/
theorem powerOn_eq (straps : BitVec 3) (s : State) :
    powerOn straps s = { State.reset with
      node := 16 + straps.setWidth 6, lines := freshLines s.lines ⟨0, 0⟩
      pending := s.pending, choice := s.choice } :=
  startAll_of_reset rfl rfl

/-- The master reset (R186; log 6, log 23). -/
theorem masterReset_eq (s : State) :
    masterReset s = { State.reset with
      now := s.now, node := s.node, lines := freshLines s.lines s.now
      tick := ⟨.internalTicks, s.now.ms, s.now.ms + 50, s.now.ms, false⟩
      portU := ⟨[], s.portU.sent⟩, portD := ⟨[], none, none, s.portD.sent⟩
      events := ⟨2, BitVec.allOnes 28⟩, pending := s.pending, choice := s.choice } :=
  startAll_of_reset rfl rfl

/-- A counter's value does not outlive the master reset (R190). -/
theorem masterReset_count (k : Counter) (n : Nat) (s : State) : masterReset (count k n s) = masterReset s := rfl

/-- The frame of RESET's OK reply, four bytes with an empty body (R175, R194). -/
theorem replyFrame_reset (r : Request) (s : State) :
    replyFrame codeReset r (done [] s) =
      ⟨.ext (identOf 5 0x41 r.src s.node r.tag), .data .fd, [0x03, 0, byte (stateCode s.ctl.state), 0]⟩ := rfl

/-- RESET with an empty body, as its frame's forwarding leaves the state (R166, R186). -/
theorem takeReset_of_carries {r : Request} (s : State) (h : Carries r []) :
    takeReset r s = requestReset r (forwardRequest s.node codeReset r s) := by
  simp [takeReset, bodyOf_of_carries (n := 0) h rfl]

/-- RESET carried out: the marked reply where the Port U queue has room, else the master reset at once (R186). -/
theorem requestReset_eq (r : Request) (s : State) :
    requestReset r s = if s.portU.queue.length < 32 then
      pushU ⟨replyFrame codeReset r (done [] s), true⟩ s else masterReset s := by
  simp [requestReset, roomU, masterReset_count]

end Sys2Proof.Machine

namespace Sys2Proof.Scope

open Machine

/-- Settles O56: each reset as one record, and RESET by the room in the Port U queue. -/
theorem powerOnAndReset : Obligations.PowerOnAndReset := by
  refine ⟨fun s => ⟨fun straps => ?_, masterReset_eq s⟩, fun r s h => ?_⟩
  · exact congrArg Host.Outcome.next (powerOn_eq straps s)
  · have run : exec (.reset r) s = .next (takeReset r s) := rfl
    intro t reply
    rw [run, takeReset_of_carries s h, requestReset_eq, replyFrame_reset]
    simp [t, reply, pushU, codeReset]

end Sys2Proof.Scope
end

section
/-! The consistency of the control state (section 5.1, R75, R77, R82, R84, R85, R90, R103, R131): every command keeps it. -/

namespace Sys2Proof.Machine

/-! ## What the consistency reads -/

/-- `t` agrees with `s` on all that `ControlSound` reads outside the beam table, except that AUTO may set the off-column
indication. -/
structure SameControl (s t : State) : Prop where
  state : t.ctl.state = s.ctl.state := by simp
  prior : t.ctl.prior = s.ctl.prior := by simp
  running : testRunning t = testRunning s := by simp [testRunning, testRun]
  isOpen : t.run.isOpen = s.run.isOpen := by simp
  benched : t.run.benched = s.run.benched := by simp
  offColumn : s.ctl.state ≠ .auto → t.ctl.offColumn = s.ctl.offColumn := by simp

/-- The control state stays consistent where AUTO and HOLD still have the entry they need. -/
theorem controlSound_of_same {s t : State} (h : ControlSound s) (k : SameControl s t)
    (href : s.ctl.state = .auto → ∃ c, (beam t c).state = .reference)
    (hfade : s.ctl.state = .hold → ∃ c, (beam t c).state = .fading) : ControlSound t where
  test := ⟨by rw [k.running, k.state]; exact h.test.running, by rw [k.prior, k.state]; exact h.test.prior,
    by rw [k.prior, k.state]; exact h.test.noPrior⟩
  closed := by rw [k.state, k.prior, k.isOpen]; exact h.closed
  isOpen := by rw [k.state, k.prior, k.isOpen]; exact h.isOpen
  benched := by rw [k.benched, k.isOpen]; exact h.benched
  ready := by rw [k.benched, k.state]; exact h.ready
  reference := by rw [k.state]; exact href
  fading := by rw [k.state]; exact hfade
  offColumn := fun ho => by
    rw [k.state]
    by_contra ha
    exact ha (h.offColumn (k.offColumn ha ▸ ho))

theorem controlSound_of_frame {s t : State} (h : ControlSound s) (k : SameControl s t)
    (hbeams : t.beams = s.beams := by simp) : ControlSound t :=
  controlSound_of_same h k (by rw [beam_congr hbeams]; exact h.reference) (by rw [beam_congr hbeams]; exact h.fading)

/-- What touches neither the control unit, the test, the run nor the beam table keeps the control state consistent. -/
theorem controlSound_of_eq {s t : State} (h : ControlSound s) (hctl : t.ctl = s.ctl) (htest : t.test = s.test)
    (hrun : t.run = s.run) (hbeams : t.beams = s.beams) : ControlSound t :=
  controlSound_of_frame h ⟨by rw [hctl], by rw [hctl], by simp [testRunning, testRun, htest], by rw [hrun], by rw [hrun],
    fun _ => by rw [hctl]⟩ hbeams

/-- Out of AUTO the off-column indication is clear (R103). -/
theorem offColumn_of_controlSound {s : State} (h : ControlSound s) (ha : s.ctl.state ≠ .auto) :
    s.ctl.offColumn = false := by
  by_contra ho
  exact ha (h.offColumn (by simpa using ho))

/-- A test runs in TEST only. -/
theorem not_running_of_controlSound {s : State} (h : ControlSound s) (ht : s.ctl.state ≠ .test) :
    testRunning s = false := by
  by_contra hr
  exact ht (h.test.running.1 (by simpa using hr))

/-- STANDBY with the run closed, or MANUAL with it open, is consistent with no test running. -/
theorem controlSound_of_idle {t : State} (hrun : testRunning t = false) (hprior : t.ctl.prior = none)
    (hoff : t.ctl.offColumn = false) (hbench : t.run.benched = true → t.run.isOpen = true)
    (hstate : t.ctl.state = .standby ∧ t.run.isOpen = false ∨ t.ctl.state = .manual ∧ t.run.isOpen = true) :
    ControlSound t := by
  obtain ⟨hs, ho⟩ | ⟨hs, ho⟩ := hstate
  · exact ⟨⟨by simp [hrun, hs], by simp [hs], by simp [hprior]⟩, by simp [ho], by simp [hs, hprior], hbench,
      by simp [hs], by simp [hs], by simp [hs], by simp [hoff]⟩
  · exact ⟨⟨by simp [hrun, hs], by simp [hs], by simp [hprior]⟩, by simp [hs, hprior], by simp [ho], hbench,
      by simp [hs], by simp [hs], by simp [hs], by simp [hoff]⟩

/-- TRIPPED is consistent with the run open or closed, with no test running. -/
theorem controlSound_of_tripped {t : State} (hrun : testRunning t = false) (hprior : t.ctl.prior = none)
    (hoff : t.ctl.offColumn = false) (hbench : t.run.benched = true → t.run.isOpen = true)
    (hs : t.ctl.state = .tripped) : ControlSound t :=
  ⟨⟨by simp [hrun, hs], by simp [hs], by simp [hprior]⟩, by simp [hs, hprior], by simp [hs, hprior], hbench,
    by simp [hs], by simp [hs], by simp [hs], by simp [hoff]⟩

/-! ## Transitions -/

@[simp] theorem enterIdle_ctl_state (new : CtlState) (s : State) : (enterIdle new s).ctl.state = new := by
  simp [enterIdle]

@[simp] theorem enterIdle_ctl_offColumn (new : CtlState) (s : State) : (enterIdle new s).ctl.offColumn =
    if new = .auto ∨ s.ctl.state = .auto then false else s.ctl.offColumn := by
  simp [enterIdle]

@[simp] theorem releaseControl_ctl_state (new : CtlState) (s : State) : (releaseControl new s).ctl.state = new := by
  unfold releaseControl
  split <;> simp

/-- STANDBY and MANUAL are entered with the off-column indication clear (R103). -/
theorem releaseControl_ctl_offColumn (new : CtlState) {s : State}
    (h : s.ctl.state ≠ .auto → s.ctl.offColumn = false) : (releaseControl new s).ctl.offColumn = false := by
  unfold releaseControl
  split <;> simp_all

theorem testRunning_congr {s t : State} (h : t.test = s.test) : testRunning t = testRunning s := by
  simp [testRunning, testRun, h]

theorem testRunning_of_phase_idle {s : State} (h : s.test.phase = .idle) : testRunning s = false := by
  simp [testRunning, testRun, h]

/-- A transition to STANDBY with the run closed, or to MANUAL with it open, while no test runs (R76). -/
theorem controlSound_releaseControl {s : State} {new : CtlState} (hrun : testRunning s = false)
    (hprior : s.ctl.prior = none) (hoff : s.ctl.state ≠ .auto → s.ctl.offColumn = false)
    (hbench : s.run.benched = true → s.run.isOpen = true)
    (hnew : new = .standby ∧ s.run.isOpen = false ∨ new = .manual ∧ s.run.isOpen = true) :
    ControlSound (releaseControl new s) :=
  controlSound_of_idle (by rw [testRunning_congr (s := s) (by simp), hrun]) (by simpa using hprior)
    (releaseControl_ctl_offColumn new hoff) (by simpa using hbench) (by simpa using hnew)

/-- AUTO, HOLD and SUSPENDED are consistent in a benched open run with no test running. -/
theorem controlSound_of_benched {t : State} (hrun : testRunning t = false) (hprior : t.ctl.prior = none)
    (hopen : t.run.isOpen = true) (hbench : t.run.benched = true)
    (hstate : t.ctl.state = .auto ∨ t.ctl.state = .hold ∨ t.ctl.state = .suspended)
    (href : t.ctl.state = .auto → ∃ c, (beam t c).state = .reference)
    (hfade : t.ctl.state = .hold → ∃ c, (beam t c).state = .fading)
    (hoff : t.ctl.offColumn = true → t.ctl.state = .auto) : ControlSound t := by
  have hne : t.ctl.state ≠ .test ∧ t.ctl.state ≠ .standby := by
    obtain hs | hs | hs := hstate <;> simp [hs]
  exact ⟨⟨by simp [hrun, hne], by simp [hne], by simp [hprior]⟩, by simp [hne, hprior], by simp [hopen],
    by simp [hopen], by simp [hbench], href, hfade, hoff⟩

/-- AUTO is entered, with no test running, in a benched open run with an entry in REFERENCE (R82, R85, R87). -/
theorem controlSound_enterAuto {s : State} (hrun : testRunning s = false) (hprior : s.ctl.prior = none)
    (hopen : s.run.isOpen = true) (hbench : s.run.benched = true) (href : ∃ c, (beam s c).state = .reference) :
    ControlSound (enterAuto s) :=
  have hs : (enterAuto s).ctl.state = .auto := rfl
  controlSound_of_benched (by rw [testRunning_congr (s := s) (by simp), hrun]) (by simpa using hprior)
    (by simpa using hopen) (by simpa using hbench) (Or.inl hs) (fun _ => by simpa [beam] using href) (by simp [hs])
    (fun _ => hs)

/-- HOLD moves to SUSPENDED (R86); `t` is `s` but for the beam table. -/
theorem controlSound_reportSuspend {s t : State} (h : ControlSound s) (k : SameControl s t)
    (href : s.ctl.state = .auto → ∃ c, (beam t c).state = .reference) : ControlSound (reportSuspend t) := by
  by_cases hh : s.ctl.state = .hold
  · have hs : (reportSuspend t).ctl.state = .suspended := by simp [reportSuspend, k.state, hh, enterSuspended]
    have ho : (reportSuspend t).ctl.offColumn = false := by
      simp [reportSuspend, k.state, hh, enterSuspended, k.offColumn, offColumn_of_controlSound h]
    exact controlSound_of_benched
      (by rw [testRunning_congr (s := t) (by simp), k.running, not_running_of_controlSound h (by simp [hh])])
      (by simpa [k.prior] using h.test.noPrior (by simp [hh])) (by simpa [k.isOpen] using h.isOpen (by simp [hh]))
      (by simpa [k.benched] using h.ready (by simp [hh])) (by simp [hs]) (by simp [hs]) (by simp [hs]) (by simp [ho])
  · rw [reportSuspend, k.state, if_neg hh]
    exact controlSound_of_same h k href (fun hb => absurd hb hh)

/-- The fading of an entry moves AUTO to HOLD (R84); `t` is `s` with that entry FADING. -/
theorem controlSound_reportFading {s t : State} (c : BeamCode) (h : ControlSound s) (k : SameControl s t)
    (hc : (beam t c).state = .fading) : ControlSound (reportFading c t) := by
  by_cases ha : s.ctl.state = .auto
  · have hs : (reportFading c t).ctl.state = .hold := by simp [reportFading, k.state, ha, enterHold]
    have ho : (reportFading c t).ctl.offColumn = false := by simp [reportFading, k.state, ha, enterHold]
    exact controlSound_of_benched
      (by rw [testRunning_congr (s := t) (by simp), k.running, not_running_of_controlSound h (by simp [ha])])
      (by simpa [k.prior] using h.test.noPrior (by simp [ha])) (by simpa [k.isOpen] using h.isOpen (by simp [ha]))
      (by simpa [k.benched] using h.ready (by simp [ha])) (by simp [hs]) (by simp [hs])
      (fun _ => ⟨c, by simpa [beam] using hc⟩) (by simp [ho])
  · rw [reportFading, k.state, if_neg ha]
    exact controlSound_of_same h k (fun hb => absurd hb ha) (fun _ => ⟨c, hc⟩)

/-- The return of the reference moves HOLD to AUTO (R85); `t` is `s` with an entry in REFERENCE. -/
theorem controlSound_reportRecovered {s t : State} (c : BeamCode) (h : ControlSound s) (k : SameControl s t)
    (hc : (beam t c).state = .reference) : ControlSound (reportRecovered t) := by
  by_cases hh : s.ctl.state = .hold
  · rw [reportRecovered, k.state, if_pos hh]
    exact controlSound_enterAuto (by rw [k.running, not_running_of_controlSound h (by simp [hh])])
      (by simpa [k.prior] using h.test.noPrior (by simp [hh])) (by simpa [k.isOpen] using h.isOpen (by simp [hh]))
      (by simpa [k.benched] using h.ready (by simp [hh])) ⟨c, hc⟩
  · rw [reportRecovered, k.state, if_neg hh]
    exact controlSound_of_same h k (fun _ => ⟨c, hc⟩) (fun hb => absurd hb hh)

/-! ## The valve test -/

@[simp] theorem closeTest_phase (o : TestOutcome) (t : TestRun) (i : Option Nat) (s : State) :
    (closeTest o t i s).test.phase = .idle := rfl

theorem testRunning_closeRunningTest (o : TestOutcome) (s : State) :
    testRunning (closeRunningTest o s) = false := by
  apply testRunning_of_phase_idle
  unfold closeRunningTest
  split <;> simp [*]

/-- A test that ends returns the control state to where it began (R90, R138). -/
theorem controlSound_endTest {s : State} (o : TestOutcome) (h : ControlSound s) : ControlSound (endTest o s) := by
  unfold endTest
  split
  · rename_i hr
    have ht : s.ctl.state = .test := h.test.running.1 hr
    have hidle := testRunning_closeRunningTest o s
    have leave : ∀ p : CtlState, s.ctl.prior = some p →
        p = .standby ∧ s.run.isOpen = false ∨ p = .manual ∧ s.run.isOpen = true →
        ControlSound (returnFromTest (closeRunningTest o s)) := by
      intro p hp hstate
      have he : returnFromTest (closeRunningTest o s) = clearPrior (enterIdle p (closeRunningTest o s)) := by
        simp [returnFromTest, hp]
      rw [he]
      refine controlSound_of_idle ?_ rfl ?_ ?_ ?_
      · rw [← hidle]
        exact testRunning_congr (by simp)
      · simp [ht, offColumn_of_controlSound h]
      · simpa using h.benched
      · simpa using hstate
    obtain hp | hp := h.test.prior ht
    · exact leave _ hp (Or.inl ⟨rfl, h.closed (Or.inr hp)⟩)
    · exact leave _ hp (Or.inr ⟨rfl, h.isOpen (by simp [hp])⟩)
  · exact h

theorem controlSound_trip {s : State} (h : ControlSound s) : ControlSound (trip s) := by
  have ht : testRunning (trip s) = false := by
    rw [← testRunning_closeRunningTest .stop s]
    exact testRunning_congr (by simp [trip])
  have hs : (trip s).ctl.state = .tripped := by simp [trip]
  have hp : (trip s).ctl.prior = none := by simp [trip]
  have ho : (trip s).ctl.offColumn = false := by
    by_cases ha : s.ctl.state = .auto
    · simp [trip, ha]
    · simp [trip, offColumn_of_controlSound h ha]
  exact controlSound_of_tripped ht hp ho (by simpa using h.benched) hs

/-! ## Strikes -/

@[simp] theorem handleKind_frame (c : BeamCode) (kind : StrikeKind) (s : State) :
    (handleKind c kind s).2.now = s.now ∧ (handleKind c kind s).2.params = s.params ∧
    (handleKind c kind s).2.chain = s.chain ∧ (handleKind c kind s).2.tilt = s.tilt ∧
    (handleKind c kind s).2.store = s.store ∧ (handleKind c kind s).2.run = s.run ∧
    (handleKind c kind s).2.ctl = s.ctl ∧ (handleKind c kind s).2.test = s.test := by
  unfold handleKind failWindow
  cases kind with
  | single p => dsimp only; split <;> [skip; split] <;> simp
  | edgeHigh => simp
  | edgeLow => simp
  | multi => simp

/-- Replacing an entry by one in the same state moves no entry. -/
theorem beam_state_setBeam {s t : State} {c : BeamCode} {e : Beam} (he : e.state = (beam s c).state)
    (ht : ∀ d, (beam t d).state = (beam s d).state) (d : BeamCode) :
    (beam (setBeam c e t) d).state = (beam s d).state := by
  rw [beam_setBeam]
  split <;> simp_all

theorem beam_state_acceptHeight (c d : BeamCode) (b : Int) (s : State) :
    (beam (acceptHeight c b s) d).state = (beam s d).state :=
  beam_state_setBeam (by rfl) (fun _ => by rfl) d

/-- The strike interpreter moves no entry (R6 to R10). -/
theorem beam_state_handleKind (c d : BeamCode) (kind : StrikeKind) (s : State) :
    (beam (handleKind c kind s).2 d).state = (beam s d).state := by
  unfold handleKind failWindow
  cases kind with
  | single p =>
    dsimp only
    split <;> [skip; split]
    · exact beam_state_acceptHeight c d _ s
    · exact beam_state_setBeam (by simp) (by simp) d
    · simp [beam_state_acceptHeight]
  | edgeHigh => exact beam_state_setBeam (by rfl) (fun _ => by rfl) d
  | edgeLow => exact beam_state_setBeam (by rfl) (fun _ => by rfl) d
  | multi => simp

theorem controlSound_setBeam {s : State} (c : BeamCode) (e : Beam) (h : ControlSound s)
    (hr : (beam s c).state ≠ .reference) (hf : (beam s c).state ≠ .fading) : ControlSound (setBeam c e s) := by
  have keep : ∀ st : BeamState, (beam s c).state ≠ st → (∃ d, (beam s d).state = st) →
      ∃ d, (beam (setBeam c e s) d).state = st := by
    rintro st hst ⟨d, hd⟩
    have hdc : d ≠ c := by rintro rfl; exact hst hd
    exact ⟨d, by simp [hdc, hd]⟩
  exact controlSound_of_same h {} (fun ha => keep _ hr (h.reference ha)) (fun hh => keep _ hf (h.fading hh))

/-- In AUTO and HOLD the run is benched, so no first reference is chosen (R31). -/
theorem chooseFirst_of_benched {s : State} (c : BeamCode) (hopen : s.run.isOpen = true) (hbench : s.run.benched = true) :
    chooseFirst c s = s := by
  simp [chooseFirst, hopen, hbench]

theorem controlSound_chooseFirst {s : State} (c : BeamCode) (h : ControlSound s) : ControlSound (chooseFirst c s) := by
  by_cases hs : s.ctl.state = .auto ∨ s.ctl.state = .hold
  · rw [chooseFirst_of_benched c (h.isOpen (by tauto)) (h.ready (by tauto))]
    exact h
  · exact controlSound_of_same h {} (fun ha => absurd (Or.inl ha) hs) (fun hh => absurd (Or.inr hh) hs)

theorem controlSound_latchHere {s : State} (e : Event) (b : Option BeamCode) (h : ControlSound s) :
    ControlSound (latchHere e b s) := controlSound_of_frame h {}

theorem controlSound_countGood {s : State} (c : BeamCode) (h : ControlSound s)
    (hr : (beam s c).state ≠ .reference) (hf : (beam s c).state ≠ .fading) : ControlSound (countGood c s) := by
  unfold countGood
  dsimp only
  split
  · exact controlSound_chooseFirst c (controlSound_latchHere _ _ (controlSound_setBeam c _ h hr hf))
  · exact controlSound_setBeam c _ h hr hf

theorem controlSound_judgeWindow {s : State} (c : BeamCode) (h : ControlSound s)
    (hr : (beam s c).state ≠ .reference) (hf : (beam s c).state ≠ .fading) : ControlSound (judgeWindow c s) := by
  unfold judgeWindow
  dsimp only
  split
  · split <;> exact controlSound_latchHere _ _ (controlSound_setBeam c _ h hr hf)
  · exact h

theorem controlSound_pairStrike {s : State} (c : BeamCode) (b : Int) (h : ControlSound s)
    (hr : (beam s c).state ≠ .reference) (hf : (beam s c).state ≠ .fading) : ControlSound (pairStrike c b s) := by
  unfold pairStrike
  repeat' split
  · exact h
  · exact h
  · exact controlSound_judgeWindow c (controlSound_setBeam c _ h hr hf) (by simpa using hr) (by simpa using hf)
  · exact h

/-- The return of a FADING entry (R27, R85). -/
theorem controlSound_fadingReturns {s : State} (c : BeamCode) (e : Beam) (h : ControlSound s) :
    ControlSound (reportRecovered (setBeam c { e with state := .reference, fade := none } s)) :=
  controlSound_reportRecovered c h {} (by simp)

/-- An entry in acquisition or out of sight holds neither AUTO nor HOLD (R22 to R24). -/
def Unsighted (e : Beam) : Prop := e.state = .unseen ∨ e.state = .lost ∨ e.state = .acquiring

/-- All that a strike's result does in the beam table (R23, R24, R27, R32 to R34). -/
theorem beamTransition_cases (c : BeamCode) (r : StrikeResult) (s : State) :
    beamTransition c r s = s ∨
    (Unsighted (beam s c) ∧ ∃ e : Beam, Unsighted e ∧
      (beamTransition c r s = setBeam c e s ∨ beamTransition c r s = countGood c (setBeam c e s))) ∨
    (Unsighted (beam s c) ∧ beamTransition c r s = countGood c s) ∨
    ((beam s c).state = .tracking ∧ ∃ b, beamTransition c r s = pairStrike c b s) ∨
    ((beam s c).state = .fading ∧ beamTransition c r s =
      reportRecovered (setBeam c { beam s c with state := .reference, fade := none } s)) := by
  have begins : Unsighted { beam s c with state := .acquiring, good := 0 } := by simp [Unsighted]
  have fails : (beam s c).state = .acquiring → Unsighted { beam s c with good := 0 } := by simp +contextual [Unsighted]
  cases hst : (beam s c).state with
  | unseen =>
    cases r with
    | multi => simp [beamTransition, hst]
    | _ => exact Or.inr (Or.inl ⟨by simp [Unsighted, hst], _, begins, by simp [beamTransition, hst]⟩)
  | lost =>
    cases r with
    | multi => simp [beamTransition, hst]
    | _ => exact Or.inr (Or.inl ⟨by simp [Unsighted, hst], _, begins, by simp [beamTransition, hst]⟩)
  | acquiring =>
    cases r with
    | jumpRejected => exact Or.inr (Or.inl ⟨by simp [Unsighted, hst], _, fails hst, by simp [beamTransition, hst]⟩)
    | _ => simp [beamTransition, hst, Unsighted]
  | tracking =>
    cases r with
    | accepted b | rebased b => exact Or.inr (Or.inr (Or.inr (Or.inl ⟨rfl, b, by simp [beamTransition, hst]⟩)))
    | _ => simp [beamTransition, hst]
  | fading => cases r <;> simp [beamTransition, hst]
  | established => simp [beamTransition, hst]
  | reference => simp [beamTransition, hst]

theorem controlSound_beamTransition {s : State} (c : BeamCode) (r : StrikeResult) (h : ControlSound s) :
    ControlSound (beamTransition c r s) := by
  have apart : ∀ e : Beam, Unsighted e → e.state ≠ .reference ∧ e.state ≠ .fading := by
    rintro e (he | he | he) <;> simp [he]
  obtain hr | ⟨hu, e, he, hr | hr⟩ | ⟨hu, hr⟩ | ⟨ht, b, hr⟩ | ⟨-, hr⟩ := beamTransition_cases c r s <;> rw [hr]
  · exact h
  · exact controlSound_setBeam c e h (apart _ hu).1 (apart _ hu).2
  · exact controlSound_countGood c (controlSound_setBeam c e h (apart _ hu).1 (apart _ hu).2)
      (by simpa using (apart e he).1) (by simpa using (apart e he).2)
  · exact controlSound_countGood c h (apart _ hu).1 (apart _ hu).2
  · exact controlSound_pairStrike c b h (by simp [ht]) (by simp [ht])
  · exact controlSound_fadingReturns c _ h

theorem controlSound_referenceStrike {s : State} (c : BeamCode) (r : StrikeResult) (h : ControlSound s) :
    ControlSound (referenceStrike c r s) := by
  by_cases ha : s.ctl.state = .auto
  · exact controlSound_of_frame h { offColumn := fun hn => absurd ha hn }
  · simpa [referenceStrike, ha] using h

theorem controlSound_handReferenceStrike {s : State} (c : BeamCode) (r : StrikeResult) (h : ControlSound s) :
    ControlSound (handReferenceStrike c r s) := by
  unfold handReferenceStrike
  split
  · exact controlSound_referenceStrike c r h
  · exact h

/-- All that a strike handed to a test does: nothing, a later last usable strike, or the ending OFF_COLUMN (R136). -/
theorem handTestStrike_cases (c : BeamCode) (r : StrikeResult) (s : State) :
    handTestStrike c r s = s ∨ handTestStrike c r s = endTest .offColumn s ∨
    ∃ p, testRunning s = true ∧ p ≠ .idle ∧ handTestStrike c r s = { s with test := { s.test with phase := p } } := by
  cases hp : s.test.phase with
  | idle => simp [handTestStrike, hp]
  | waiting t =>
    by_cases hb : t.beam = c
    · cases r <;> simp [handTestStrike, hp, hb, testRunning, testRun]
    · cases r <;> simp [handTestStrike, hp, hb]
  | stepping t i m m0 =>
    by_cases hb : t.beam = c
    · cases r <;> simp [handTestStrike, hp, hb, testRunning, testRun]
    · cases r <;> simp [handTestStrike, hp, hb]

theorem controlSound_handTestStrike {s : State} (c : BeamCode) (r : StrikeResult) (h : ControlSound s) :
    ControlSound (handTestStrike c r s) := by
  obtain hr | hr | ⟨p, hrun, hp, hr⟩ := handTestStrike_cases c r s <;> rw [hr]
  · exact h
  · exact controlSound_endTest .offColumn h
  · refine controlSound_of_frame h { running := ?_ }
    rw [hrun]
    cases p <;> simp_all [testRunning, testRun]

theorem controlSound_handleStrike {s : State} (k : Strike) (h : ControlSound s) : ControlSound (handleStrike k s) := by
  have hseq : ∀ d, (beam (checkSequence k.code k.seq s) d).state = (beam s d).state := by
    intro d
    rw [beam_checkSequence]
    split <;> simp_all
  have hkind : ∀ d, (beam (handleKind k.code k.kind (checkSequence k.code k.seq s)).2 d).state = (beam s d).state := by
    intro d
    rw [beam_state_handleKind, hseq]
  refine controlSound_handTestStrike _ _ (controlSound_handReferenceStrike _ _ (controlSound_beamTransition _ _ ?_))
  exact controlSound_of_same h {} (by simpa only [hkind] using h.reference)
    (by simpa only [hkind] using h.fading)

/-! ## Timeouts -/

/-- The entry of a timeout moves to LOST, and a test of it ends (R25, R136); it was not one that AUTO or HOLD needs. -/
theorem controlSound_loseBeam {s : State} (c : BeamCode) (h : ControlSound (setBeam c (lostEntry (beam s c)) s)) :
    ControlSound (loseBeam c s) := by
  have hl := controlSound_latchHere .beamLost (some c) h
  unfold loseBeam
  dsimp only
  split
  · split
    · exact controlSound_endTest .noBeam hl
    · exact hl
  · exact hl

theorem controlSound_strikeTimeout {s : State} (c : BeamCode) (h : ControlSound s) :
    ControlSound (strikeTimeout c s) := by
  unfold strikeTimeout
  split
  · rename_i hd
    simp only [strikeTimeoutDue, Bool.and_eq_true, Bool.or_eq_true, decide_eq_true_eq] at hd
    obtain ⟨hs, -⟩ := hd
    exact controlSound_loseBeam c (controlSound_setBeam c _ h (by rintro hr; simp [hr] at hs) (by rintro hr; simp [hr] at hs))
  · exact h

theorem controlSound_referenceTimeout {s : State} (h : ControlSound s) : ControlSound (referenceTimeout s) := by
  unfold referenceTimeout
  repeat' split
  · exact controlSound_reportFading _ h {} (by simp)
  · exact h
  · exact h

/-- Out of HOLD the loss of a FADING entry takes nothing that the control state needs. -/
theorem controlSound_loseFading {s : State} (c : BeamCode) (h : ControlSound s) (hf : (beam s c).state = .fading)
    (hh : s.ctl.state ≠ .hold) : ControlSound (loseBeam c s) := by
  refine controlSound_loseBeam c (controlSound_of_same h {} (fun ha => ?_) (fun hb => absurd hb hh))
  obtain ⟨d, hd⟩ := h.reference ha
  have hdc : d ≠ c := by rintro rfl; simp [hf] at hd
  exact ⟨d, by simp [hdc, hd]⟩

/-- In HOLD no test runs, so a loss is the entry's and its event alone. -/
theorem loseBeam_of_not_running {s : State} (c : BeamCode) (h : testRunning s = false) :
    loseBeam c s = latchHere .beamLost (some c) (setBeam c (lostEntry (beam s c)) s) := by
  have ht : testRun (latchHere .beamLost (some c) (setBeam c (lostEntry (beam s c)) s)) = none := by
    simpa [testRunning, testRun] using h
  simp [loseBeam, ht]

/-- A reference change empties an entry's window and nothing else of it (R30). -/
@[simp] theorem beam_referenceChanged (c : BeamCode) (s : State) :
    beam (referenceChanged s) c = { beam s c with window := [] } := by
  cases c <;> rfl

/-- The second expiry of the reference: HOLD goes to AUTO with the beam that takes over, or to SUSPENDED (R28, R36). -/
theorem controlSound_loseReference {s : State} (c : BeamCode) (h : ControlSound s)
    (hf : (beam s c).state = .fading) : ControlSound (loseReference c s) := by
  obtain ⟨u, hu, k, href⟩ : ∃ u, ControlSound u ∧ SameControl u (referenceChanged (loseBeam c s)) ∧
      (u.ctl.state = .auto → ∃ d, (beam (referenceChanged (loseBeam c s)) d).state = .reference) := by
    by_cases hh : s.ctl.state = .hold
    · rw [loseBeam_of_not_running c (not_running_of_controlSound h (by simp [hh]))]
      exact ⟨s, h, {}, by simp [hh]⟩
    · have hl := controlSound_loseFading c h hf hh
      exact ⟨_, hl, {}, by simpa using hl.reference⟩
  unfold loseReference
  dsimp only
  generalize referenceChanged (loseBeam c s) = x at k href ⊢
  split
  · rename_i y _
    have kt : SameControl u (takeOver y x) := ⟨by simp [k.state], by simp [k.prior],
      by rw [← k.running]; exact testRunning_congr (by simp), by simp [k.isOpen], by simp [k.benched],
      by simpa using k.offColumn⟩
    exact controlSound_reportRecovered y hu kt (by simp [takeOver])
  · exact controlSound_reportSuspend hu k href

theorem controlSound_fadingTimeout {s : State} (h : ControlSound s) : ControlSound (fadingTimeout s) := by
  unfold fadingTimeout
  split
  · rename_i c hc
    split
    · rename_i hd
      simp only [refTimeoutDue, hc, Bool.and_eq_true, decide_eq_true_eq] at hd
      exact controlSound_loseReference c h hd.1
    · exact h
  · exact h

/-- The beams' timeouts a P_STRIKE_TMO write takes, in code order (R29). -/
def expireBeams (s : State) : State :=
  strikeTimeout .b3 (strikeTimeout .b2 (strikeTimeout .b1 (strikeTimeout .b0 s)))

/-- A P_STRIKE_TMO write takes the beams' timeouts and then one of the reference (R29). -/
theorem expireAll_eq (s : State) : expireAll s =
    if refTimeoutDue .reference (expireBeams s) then referenceTimeout (expireBeams s)
    else fadingTimeout (expireBeams s) := by
  have hb : allBeams.foldl (fun s c => strikeTimeout c s) s = expireBeams s := by
    simp only [allBeams, List.foldl_cons, List.foldl_nil, expireBeams]
  obtain ⟨a, ha⟩ : ∃ a, a = expireBeams s := ⟨_, rfl⟩
  unfold expireAll
  rw [hb, ← ha]
  unfold referenceTimeout fadingTimeout
  cases hc : reference a with
  | none => simp [hc]
  | some c => cases hr : refTimeoutDue .reference a <;> simp [hc, hr]

theorem controlSound_expireAll {s : State} (h : ControlSound s) : ControlSound (expireAll s) := by
  have ha := controlSound_strikeTimeout .b3 (controlSound_strikeTimeout .b2 (controlSound_strikeTimeout .b1
    (controlSound_strikeTimeout .b0 h)))
  rw [expireAll_eq]
  split
  · exact controlSound_referenceTimeout ha
  · exact controlSound_fadingTimeout ha

/-! ## Lines and edges -/

theorem controlSound_addHoldDistance {s : State} (m : Nat) (h : ControlSound s) :
    ControlSound (addHoldDistance m s) := by
  have hd : ControlSound { s with chain := { s.chain with dH := holdDistanceAfter m s } } := controlSound_of_frame h {}
  unfold addHoldDistance compareHoldDistance
  split <;> [split; skip]
  · exact controlSound_reportSuspend hd {} hd.reference
  · exact hd
  · exact h

theorem controlSound_countEdge {s : State} (w : Bool) (h : ControlSound s) : ControlSound (countEdge w s) := by
  unfold countEdge
  apply controlSound_addHoldDistance
  split <;> exact controlSound_of_frame h {}

theorem controlSound_odoEdge {s : State} (w : Bool) (h : ControlSound s) : ControlSound (odoEdge w s) := by
  unfold odoEdge
  apply controlSound_endTest
  split
  · exact controlSound_countEdge w h
  · exact h

theorem controlSound_setLine {s : State} (l : Line) (f : LineFilter) (h : ControlSound s) :
    ControlSound (setLine l f s) := controlSound_of_frame h {}

theorem controlSound_acceptLine {s : State} (l : Line) (h : ControlSound s) : ControlSound (acceptLine l s) := by
  have hl := controlSound_setLine l { lineOf s l with active := !(lineOf s l).active, since := none } h
  unfold acceptLine
  dsimp only
  cases l with
  | odo =>
    dsimp only
    split
    · exact controlSound_odoEdge _ hl
    · exact hl
  | dir => exact hl
  | dig => exact hl
  | stop =>
    dsimp only
    split
    · exact hl
    · exact controlSound_trip hl

theorem controlSound_filterExpiry {s : State} (l : Line) (h : ControlSound s) : ControlSound (filterExpiry l s) := by
  unfold filterExpiry
  split
  · exact controlSound_acceptLine l h
  · exact h

theorem controlSound_lineLevelChange {s : State} (l : Line) (high : Bool) (h : ControlSound s) :
    ControlSound (lineLevelChange l high s) := by
  have start : ∀ t, ControlSound t → ControlSound (startCandidate l t) := by
    intro t ht
    have hl := controlSound_setLine l { lineOf t l with since := some t.now } ht
    unfold startCandidate
    dsimp only
    split <;> [split; skip]
    · exact controlSound_acceptLine l hl
    · exact hl
    · exact ht
  unfold lineLevelChange
  dsimp only
  split
  · exact controlSound_setLine l _ h
  · exact start _ (controlSound_setLine l _ h)

/-! ## The valve test -/

theorem controlSound_writeStep {s : State} (t : TestRun) (i : Nat) (h : ControlSound s)
    (hrun : testRunning s = true) : ControlSound (writeStep t i s) :=
  controlSound_of_frame h { running := by rw [hrun]; simp [writeStep, testRunning, testRun] }

theorem controlSound_firstStep {s : State} (h : ControlSound s) : ControlSound (firstStep s) := by
  unfold firstStep
  split
  · rename_i t hp
    have hrun : testRunning s = true := by simp [testRunning, testRun, hp]
    repeat' split
    · exact controlSound_endTest .notFound h
    · exact controlSound_writeStep _ _ h hrun
    · exact h
  · exact h
  · exact h

/-- A step is judged by the movement of its beam (R135). -/
theorem judgeStep_of_stepping {s : State} {t : TestRun} {i : Nat} {m m0 : Ms}
    (hp : s.test.phase = .stepping t i m m0) : ∃ moved : Int, judgeStep s =
      if (s.params.vtMove : Int) ≤ moved then endTest .found s
      else if (s.params.vtMove : Int) ≤ -moved then endTest .wrongDirection s
      else if i + s.params.vtStep ≤ s.params.vtMax then writeStep t (i + s.params.vtStep) s
      else endTest .notFound s := by
  rw [judgeStep, hp]
  exact ⟨_, rfl⟩

theorem controlSound_judgeStep {s : State} (h : ControlSound s) : ControlSound (judgeStep s) := by
  cases hp : s.test.phase with
  | stepping t i m m0 =>
    obtain ⟨moved, hj⟩ := judgeStep_of_stepping hp
    rw [hj]
    repeat' split
    · exact controlSound_endTest .found h
    · exact controlSound_endTest .wrongDirection h
    · exact controlSound_writeStep t _ h (by simp [testRunning, testRun, hp])
    · exact controlSound_endTest .notFound h
  | idle => simpa [judgeStep, hp] using h
  | waiting t => simpa [judgeStep, hp] using h

theorem controlSound_stepTimerExpiry {s : State} (h : ControlSound s) : ControlSound (stepTimerExpiry s) := by
  unfold stepTimerExpiry
  split
  · exact controlSound_judgeStep h
  · exact h

theorem controlSound_noBeamTimeout {s : State} (h : ControlSound s) : ControlSound (noBeamTimeout s) := by
  unfold noBeamTimeout
  split
  · exact controlSound_endTest .noBeam h
  · exact h

theorem controlSound_checkMax {s : State} (h : ControlSound s) : ControlSound (checkMax s) := by
  unfold checkMax
  repeat' split
  · exact controlSound_endTest .notFound h
  all_goals exact h

/-! ## Requests: what their exchange keeps -/

/-- A property that reads nothing of the queues, the latches and the counters. -/
def BesideQueues (P : State → Prop) : Prop := ∀ s t, SameButQueues s t → P s → P t

theorem sendReply_keeps {P : State → Prop} (hP : BesideQueues P) (code : Byte) (r : Request) {a : Answer}
    (h : P a.state) : P (sendReply code r a) :=
  hP a.state _ (by simp [SameButQueues]) h

theorem forwardRequest_keeps {P : State → Prop} (hP : BesideQueues P) (d : BitVec 6) (code : Byte) (r : Request)
    {s : State} (h : P s) : P (forwardRequest d code r s) :=
  hP s _ (forwardRequest_same d code r s) h

/-- A request keeps what the rule that owns it keeps (R175). -/
theorem answerRequest_keeps {P : State → Prop} (hP : BesideQueues P) {code : Byte} {n : Nat} {r : Request}
    {act : List Byte → State → Answer} {s : State} (hact : ∀ body t, P t → P (act body t).state) (h : P s) :
    P (answerRequest code n r act s) := by
  have hf := forwardRequest_keeps hP s.node code r h
  unfold answerRequest
  dsimp only
  split
  · exact sendReply_keeps hP code r hf
  · exact sendReply_keeps hP code r (hact _ _ hf)

/-- A request refused whatever its body. -/
theorem refusal_keeps {P : State → Prop} (hP : BesideQueues P) (code : Byte) (r : Request) (st : Status) {s : State}
    (h : P s) : P (sendReply code r (refuse st (forwardRequest s.node code r s))) :=
  sendReply_keeps hP code r (forwardRequest_keeps hP s.node code r h)

theorem identify_keeps {P : State → Prop} (hP : BesideQueues P) (broadcast : Bool) (r : Request) {s : State}
    (h : P s) : P (identify broadcast r s) := by
  have hf := forwardRequest_keeps hP (if broadcast then broadcastNode else s.node) codeIdentify r h
  unfold identify
  dsimp only
  split <;> exact sendReply_keeps hP codeIdentify r hf

/-- RESET keeps what the master reset establishes (R186). -/
theorem takeReset_keeps {P : State → Prop} (hP : BesideQueues P) (hreset : ∀ s, P (masterReset s)) (r : Request)
    {s : State} (h : P s) : P (takeReset r s) := by
  have hf := forwardRequest_keeps hP s.node codeReset r h
  unfold takeReset
  dsimp only
  split
  · exact sendReply_keeps hP codeReset r hf
  · unfold requestReset
    split
    · exact hP _ _ (by simp [SameButQueues]) hf
    · exact hreset _

theorem controlSound_besideQueues : BesideQueues ControlSound := by
  rintro s t ⟨-, -, -, -, -, hb, -, -, hr, hc, -, -, -, ht, -⟩ h
  exact controlSound_of_eq h hc ht hr hb

/-! ## Parameters -/

theorem controlSound_depthModeEffect {s : State} (old : UpdateMode) (h : ControlSound s) :
    ControlSound (depthModeEffect old s) := by
  unfold depthModeEffect
  repeat' split
  · exact controlSound_of_frame h {}
  · exact controlSound_of_frame h {}
  · exact h

theorem controlSound_travelModeEffect {s : State} (old : UpdateMode) (h : ControlSound s) :
    ControlSound (travelModeEffect old s) := by
  unfold travelModeEffect
  split
  · exact controlSound_of_frame h {}
  · exact h

theorem controlSound_tickEffect {s : State} (h : ControlSound s) : ControlSound (tickEffect s) := by
  unfold tickEffect
  split
  · exact h
  · exact controlSound_of_frame h {}

theorem controlSound_tickSourceEffect {s : State} (old : TickSource) (h : ControlSound s) :
    ControlSound (tickSourceEffect old s) := by
  unfold tickSourceEffect
  split
  · exact controlSound_of_frame h {}
  · exact controlSound_of_frame h {}
  · exact h
  · exact h

theorem controlSound_paramEffect {s : State} (id : Nat) (old : Params) (h : ControlSound s) :
    ControlSound (paramEffect id old s) := by
  unfold paramEffect
  split
  · exact controlSound_of_frame h {}
  · exact controlSound_expireAll h
  · exact controlSound_of_same h {} (by simpa using h.reference) (by simpa using h.fading)
  · exact controlSound_filterExpiry _ h
  · exact controlSound_filterExpiry _ h
  · exact controlSound_filterExpiry _ h
  · exact controlSound_filterExpiry _ h
  · exact controlSound_of_frame h ⟨rfl, rfl, rfl, rfl, rfl, fun _ => rfl⟩ rfl
  · exact controlSound_tickEffect h
  · exact controlSound_tickSourceEffect _ h
  · exact controlSound_of_frame h {}
  · exact controlSound_depthModeEffect _ h
  · exact controlSound_travelModeEffect _ h
  · exact controlSound_of_frame h {}
  · exact controlSound_of_frame h {}
  · exact controlSound_checkMax h
  · exact controlSound_noBeamTimeout h
  · exact h

theorem controlSound_carryWrite {s : State} (id v : Nat) (h : ControlSound s) : ControlSound (carryWrite id v s) :=
  controlSound_paramEffect id s.params (controlSound_of_frame h {})

/-- PARAM_WRITE changes nothing or carries a value out (R177). -/
theorem paramWrite_state (body : List Byte) (s : State) :
    (paramWrite body s).state = s ∨ ∃ id v, (paramWrite body s).state = carryWrite id v s := by
  unfold paramWrite
  split
  · unfold writeParam
    dsimp only
    split <;> [exact Or.inl rfl; skip]
    split <;> [exact Or.inl rfl; skip]
    split
    · split <;> [exact Or.inr ⟨_, _, rfl⟩; exact Or.inl rfl]
    · exact Or.inr ⟨_, _, rfl⟩
  · exact Or.inl rfl

theorem controlSound_paramWrite {s : State} (body : List Byte) (h : ControlSound s) :
    ControlSound (paramWrite body s).state := by
  obtain hs | ⟨id, v, hs⟩ := paramWrite_state body s <;> rw [hs]
  · exact h
  · exact controlSound_carryWrite id v h

/-! ## Runs and modes -/

theorem controlSound_openRun {s : State} (start : Nat) (g : Int) (discard : Bool) (h : ControlSound s)
    (hs : s.ctl.state = .standby) : ControlSound (openRun start g discard s) := by
  refine controlSound_of_idle ?_ ?_ ?_ ?_ (Or.inr ⟨?_, ?_⟩)
  · rw [testRunning_congr (s := s) (by simp [openRun]), not_running_of_controlSound h (by simp [hs])]
  · simpa [openRun] using h.test.noPrior (by simp [hs])
  · simp [openRun, hs, offColumn_of_controlSound h]
  all_goals simp [openRun]

/-- OPEN_RUN changes nothing, or opens a run from STANDBY with the tables loaded and its offsets in range (R78). -/
theorem openRunRequest_state (body : List Byte) (s : State) :
    (openRunRequest body s).state = s ∨ ∃ start g discard, s.ctl.state = .standby ∧ tablesLoaded s = true ∧
      offsetsInRange (baseOffsets g s.store.active.entries) = true ∧
      (openRunRequest body s).state = openRun start g discard s := by
  unfold openRunRequest
  split
  · unfold takeOpenRun
    split <;> [exact Or.inl rfl; skip]
    split <;> [exact Or.inl rfl; skip]
    split <;> [exact Or.inl rfl; skip]
    split <;> [exact Or.inl rfl; skip]
    split <;> [exact Or.inl rfl; skip]
    exact Or.inr ⟨_, _, _, by simp_all, by simp_all, by simp_all, rfl⟩
  · exact Or.inl rfl

theorem controlSound_openRunRequest {s : State} (body : List Byte) (h : ControlSound s) :
    ControlSound (openRunRequest body s).state := by
  obtain hr | ⟨start, g, discard, hs, -, -, hr⟩ := openRunRequest_state body s <;> rw [hr]
  · exact h
  · exact controlSound_openRun start g discard h hs

theorem controlSound_closeRun {s : State} (h : ControlSound s) : ControlSound (closeRun s).state := by
  unfold closeRun
  split
  · rename_i hs
    have ht : s.ctl.state ≠ .test := by obtain hs | hs := hs <;> simp [hs]
    have hrun : testRunning (endRun (finishTakeover s)) = false := by
      rw [testRunning_congr (s := s) (by simp), not_running_of_controlSound h ht]
    exact controlSound_releaseControl hrun (by simpa using h.test.noPrior ht)
      (by simpa using offColumn_of_controlSound h) (by simp) (by simp)
  · exact h

/-- BENCH and SET_DEPTH fix the depth setting in MANUAL and SUSPENDED, where the run is open (R80, R81). -/
theorem controlSound_setDepthSetting {s t : State} (d : Int) (h : ControlSound s) (k : SameControl s t)
    (hs : s.ctl.state = .manual ∨ s.ctl.state = .suspended) : ControlSound (setDepthSetting d t) := by
  have hopen : t.run.isOpen = true := by rw [k.isOpen]; exact h.isOpen (by tauto)
  have ht := controlSound_of_same h k (by rintro ha; simp [ha] at hs) (by rintro ha; simp [ha] at hs)
  exact ⟨⟨ht.test.running, ht.test.prior, ht.test.noPrior⟩, fun hc => absurd hopen (by simpa using ht.closed hc),
    ht.isOpen, fun _ => hopen, fun _ => rfl,
    ht.reference, ht.fading, ht.offColumn⟩

theorem controlSound_setDepthRequest {s : State} (body : List Byte) (h : ControlSound s) :
    ControlSound (setDepthRequest body s).state := by
  unfold setDepthRequest setDepth
  split
  · split <;> [exact h; skip]
    split <;> [exact h; skip]
    exact controlSound_setDepthSetting _ h {} (by tauto)
  · exact h

theorem controlSound_finishBench {s : State} (c : BeamCode) (d : Int) (h : ControlSound s)
    (hs : s.ctl.state = .manual ∨ s.ctl.state = .suspended) : ControlSound (finishBench c d s).state := by
  unfold finishBench
  split
  · exact h
  · dsimp only
    split
    · exact (controlSound_of_frame h {} : ControlSound (noteTarget s.chain.s s))
    · refine controlSound_setDepthSetting _ h ?_ hs
      split
      · exact {}
      · unfold benchBeam
        exact {}

/-- BENCH changes nothing, or fixes the depth setting through a beam in MANUAL or SUSPENDED (R39, R80). -/
theorem bench_state (body : List Byte) (s : State) : (bench body s).state = s ∨
    (s.ctl.state = .manual ∨ s.ctl.state = .suspended) ∧ ∃ c d, (bench body s).state = (finishBench c d s).state := by
  have named : ∀ c, (benchNamed c s).state = s ∨ ∃ d, (benchNamed c s).state = (finishBench c d s).state := by
    intro c
    unfold benchNamed
    dsimp only
    split <;> [exact Or.inl rfl; skip]
    split <;> [exact Or.inl rfl; skip]
    split <;> [exact Or.inr ⟨_, rfl⟩; exact Or.inl rfl]
  unfold bench
  split
  · exact Or.inl rfl
  · rename_i hs
    have hs : s.ctl.state = .manual ∨ s.ctl.state = .suspended := by tauto
    split <;> split <;> [exact Or.inl rfl; skip; exact Or.inl rfl; skip] <;> rename_i c _ <;>
      exact (named c).imp_right fun ⟨d, hd⟩ => ⟨hs, c, d, hd⟩

theorem controlSound_bench {s : State} (body : List Byte) (h : ControlSound s) :
    ControlSound (bench body s).state := by
  obtain hb | ⟨hs, c, d, hb⟩ := bench_state body s <;> rw [hb]
  · exact h
  · exact controlSound_finishBench c d h hs

/-- AUTO is entered on request from MANUAL and SUSPENDED when the part is ready (R82, R87). -/
theorem controlSound_readyAuto {s : State} (h : ControlSound s)
    (hs : s.ctl.state = .manual ∨ s.ctl.state = .suspended) (hr : autoReady s = true) :
    ControlSound (enterAuto s) := by
  have ht : s.ctl.state ≠ .test := by obtain hs | hs := hs <;> simp [hs]
  unfold autoReady at hr
  split at hr <;> simp only [Bool.and_eq_true, Bool.and_false, Bool.false_eq_true] at hr
  rename_i c hc
  obtain ⟨⟨hbench, -⟩, -⟩ := hr
  exact controlSound_enterAuto (not_running_of_controlSound h ht) (h.test.noPrior ht) (h.isOpen (by tauto)) hbench
    ⟨c, by simpa using List.find?_some hc⟩

theorem controlSound_takeModeAuto {s : State} (body : List Byte) (h : ControlSound s) :
    ControlSound (takeModeAuto body s).state := by
  unfold takeModeAuto setModeAuto
  split <;> [split; skip]
  · rename_i hr
    exact controlSound_readyAuto h (Or.inl hr.1) hr.2
  all_goals exact h

theorem controlSound_resume {s : State} (h : ControlSound s) : ControlSound (resume s).state := by
  unfold resume
  split
  · rename_i hr
    exact controlSound_readyAuto h (Or.inr hr.1) hr.2
  · exact h

/-- The way back to MANUAL from AUTO, HOLD and SUSPENDED (R83, R89). -/
theorem controlSound_releaseManual {s : State} (h : ControlSound s)
    (hs : s.ctl.state = .auto ∨ s.ctl.state = .hold ∨ s.ctl.state = .suspended) :
    ControlSound (releaseControl .manual s) := by
  have ht : s.ctl.state ≠ .test := by obtain hs | hs | hs := hs <;> simp [hs]
  exact controlSound_releaseControl (not_running_of_controlSound h ht) (h.test.noPrior ht) (offColumn_of_controlSound h)
    h.benched (Or.inr ⟨rfl, h.isOpen (by tauto)⟩)

theorem controlSound_takeModeManual {s : State} (body : List Byte) (h : ControlSound s) :
    ControlSound (takeModeManual body s).state := by
  unfold takeModeManual setModeManual
  split <;> [split; skip]
  · rename_i hs
    exact controlSound_releaseManual h hs
  all_goals exact h

theorem controlSound_clearTrip {s : State} (h : ControlSound s) : ControlSound (clearTrip s).state := by
  unfold clearTrip
  split
  · exact h
  · rename_i hs
    have ht : s.ctl.state = .tripped := by tauto
    refine controlSound_releaseControl (not_running_of_controlSound h (by simp [ht])) (h.test.noPrior (by simp [ht]))
      (offColumn_of_controlSound h) h.benched ?_
    cases ho : s.run.isOpen <;> simp [idleState, ho]

theorem controlSound_takeManual {s : State} (f : Arrival) (h : ControlSound s) : ControlSound (takeManual f s) := by
  have forwards : ∀ g t, ControlSound t → ControlSound (forwardToD g t) := fun g t ht => controlSound_of_frame ht {}
  have overrides : s.ctl.state = .auto ∨ s.ctl.state = .hold ∨ s.ctl.state = .suspended → ControlSound (override s) :=
    fun hs => controlSound_latchHere .override none (controlSound_releaseManual h hs)
  unfold takeManual
  split
  · exact controlSound_of_frame h {}
  · unfold gateManual
    split
    case h_6 => split <;> [exact forwards _ _ (controlSound_endTest .override h); exact h]
    case h_7 => exact h
    case h_1 | h_2 => exact forwards _ _ h
    all_goals split <;> [exact forwards _ _ (overrides (by tauto)); exact h]

/-! ## Requests of the beam table, the valve test and the trace -/

theorem controlSound_handover {s : State} (body : List Byte) (h : ControlSound s) :
    ControlSound (handover body s).state := by
  unfold handover
  split <;> [skip; split]
  · exact h
  · rename_i c _ _
    exact controlSound_reportRecovered c h {} (by simp [takeOver])
  · exact h

theorem controlSound_adopt {s : State} (body : List Byte) (h : ControlSound s) :
    ControlSound (adopt body s).state := by
  unfold adopt
  split <;> [skip; exact h]
  unfold adoptBeam
  split <;> [exact h; skip]
  split <;> [exact h; skip]
  split <;> [exact h; skip]
  rename_i ht
  have ht : (beam s _).state = .tracking := not_not.1 ht
  exact controlSound_setBeam _ _ h (by simp [ht]) (by simp [ht])

/-- A test begins in STANDBY or MANUAL, which it remembers (R90, R133). -/
theorem controlSound_startTest {s : State} (d : Dir) (c : BeamCode) (b : Int) (h : ControlSound s)
    (hs : s.ctl.state = .standby ∨ s.ctl.state = .manual) : ControlSound (startTest d c b s) := by
  refine controlSound_firstStep ?_
  generalize hp : TestPhase.waiting ⟨d, c, b, s.now.ms, s.now.ms⟩ = p
  generalize ht : enterTest { s with test := { s.test with phase := p } } = t
  have hstate : t.ctl.state = .test := by simp [← ht, enterTest]
  have hprior : t.ctl.prior = some s.ctl.state := by simp [← ht, enterTest]
  have hoff : t.ctl.offColumn = false := by
    have ho := offColumn_of_controlSound h (by obtain hs | hs := hs <;> simp [hs])
    simp [← ht, enterTest, ho]
  have hrun : testRunning t = true := by simp [← ht, ← hp, testRunning, testRun]
  have hr : t.run = s.run := by simp [← ht]
  refine ⟨⟨by simp [hrun, hstate], by simpa [hprior] using fun _ => hs, by simp [hstate]⟩, ?_, ?_, ?_, ?_, ?_, ?_, by simp [hoff]⟩
  · simpa [hstate, hprior, hr] using fun hb => h.closed (Or.inl hb)
  · simpa [hstate, hprior, hr] using fun hb => h.isOpen (Or.inl hb)
  · rw [hr]; exact h.benched
  all_goals simp [hstate]

theorem controlSound_testStart {s : State} (body : List Byte) (h : ControlSound s) :
    ControlSound (testStart body s).state := by
  unfold testStart
  split <;> [exact h; skip]
  split <;> [exact h; skip]
  split <;> [exact h; skip]
  split <;> [exact h; skip]
  split <;> [exact h; skip]
  split <;> [skip; exact h]
  exact controlSound_startTest _ _ _ h (by tauto)

theorem controlSound_testAbort {s : State} (h : ControlSound s) : ControlSound (testAbort s).state := by
  unfold testAbort
  split
  · exact controlSound_endTest .request h
  · exact h

/-- TEST_APPLY changes nothing, or puts a checked current into a committed map outside AUTO, HOLD and TEST (R141). -/
theorem testApply_state (s : State) : (testApply s).state = s ∨ ∃ d i m, valveMap d s = some m ∧
    i ≠ 0 ∧ i ≤ (m.getD 1 ⟨0, 0⟩).i ∧ (testApply s).state = setValveMap d (applyCurrent i m) s := by
  unfold testApply
  split <;> [exact Or.inl rfl; skip]
  split <;> [skip; exact Or.inl rfl]
  split <;> [exact Or.inl rfl; skip]
  split <;> [exact Or.inl rfl; skip]
  rename_i hm hi
  exact Or.inr ⟨_, _, _, hm, by omega, by omega, rfl⟩

theorem controlSound_testApply {s : State} (h : ControlSound s) : ControlSound (testApply s).state := by
  obtain hs | ⟨d, i, m, -, -, -, hs⟩ := testApply_state s <;> rw [hs]
  · exact h
  · exact controlSound_of_eq h rfl rfl rfl rfl

/-! ## Resets -/

theorem controlSound_of_reset {t : State} (hr : t.run = resetRun) (hc : t.ctl = resetControl)
    (ht : t.test = resetTest) : ControlSound t :=
  controlSound_of_idle (testRunning_of_phase_idle (by rw [ht]; rfl)) (by rw [hc]; rfl) (by rw [hc]; rfl)
    (by rw [hr]; exact id) (Or.inl ⟨by rw [hc]; rfl, by rw [hr]; rfl⟩)

theorem controlSound_masterReset (s : State) : ControlSound (masterReset s) := by
  rw [masterReset_eq]
  exact controlSound_of_reset rfl rfl rfl

/-- The run clear ends a test, closes the run, and goes to STANDBY unless TRIPPED (R95). -/
theorem controlSound_clearRun {s : State} (h : ControlSound s) : ControlSound (clearRun s) := by
  unfold clearRun
  dsimp only
  generalize hu : setMemory 0 (endRun (finishTakeover (clearPrior (closeRunningTest .request s)))) = u
  have hrun : testRunning u = false := by
    rw [← testRunning_closeRunningTest .request s]
    exact testRunning_congr (by simp [← hu])
  have hprior : u.ctl.prior = none := by simp [← hu]
  have hoff : u.ctl.state ≠ .auto → u.ctl.offColumn = false := by simpa [← hu] using offColumn_of_controlSound h
  have hopen : u.run.isOpen = false := by simp [← hu]
  have hbench : u.run.benched = false := by simp [← hu]
  unfold clearControl
  split
  · rename_i hs
    exact controlSound_of_tripped (by rw [← hrun]; exact testRunning_congr rfl) hprior rfl
      (by simp [clearBlocks, hbench]) hs
  · exact controlSound_of_idle (by rw [← hrun]; exact testRunning_congr (by simp [clearBlocks]))
      (by simp [clearBlocks, hprior]) rfl (by simp [clearBlocks, hbench]) (Or.inl (by simp [clearBlocks, hopen]))

/-! ## The step -/

theorem controlSound_takeStrike {s : State} (f : Arrival) (h : ControlSound s) : ControlSound (takeStrike f s) := by
  unfold takeStrike
  split
  · exact controlSound_of_frame h {}
  · exact controlSound_handleStrike _ (controlSound_of_frame h {})

/-! ## Requests that leave the control state alone -/

/-- The control unit, the test, the run record and the beam table are as they were. -/
def SameCore (s t : State) : Prop := t.ctl = s.ctl ∧ t.test = s.test ∧ t.run = s.run ∧ t.beams = s.beams

theorem controlSound_of_sameCore {s t : State} (h : ControlSound s) (k : SameCore s t) : ControlSound t := by
  obtain ⟨hc, ht, hr, hb⟩ := k
  exact controlSound_of_eq h hc ht hr hb

theorem sameCore_rfl (s : State) : SameCore s s := ⟨rfl, rfl, rfl, rfl⟩

theorem sameCore_loadBegin (body : List Byte) (s : State) : SameCore s (loadBegin body s).state := by
  unfold loadBegin
  repeat' split
  all_goals exact sameCore_rfl s

theorem sameCore_loadEntry (sn : Session) (body : List Byte) (s : State) :
    SameCore s (loadEntry sn body s).state := by
  unfold loadEntry
  repeat' split
  all_goals exact sameCore_rfl s

theorem sameCore_commitProfile (n : Nat) (s : State) : SameCore s (commitProfile n s) := by
  unfold commitProfile
  dsimp only
  split <;> simp [SameCore]

theorem sameCore_loadCommit (body : List Byte) (s : State) : SameCore s (loadCommit body s).state := by
  unfold loadCommit
  split <;> [skip; exact sameCore_rfl s]
  unfold commitSession
  split <;> [exact sameCore_rfl s; skip]
  split <;> [exact sameCore_rfl s; skip]
  split <;> [exact sameCore_rfl s; skip]
  split
  · exact sameCore_commitProfile _ s
  all_goals split <;> exact sameCore_rfl s

theorem sameCore_loadCancel (body : List Byte) (s : State) : SameCore s (loadCancel body s).state := by
  unfold loadCancel cancelKind
  repeat' split
  all_goals exact sameCore_rfl s

/-- Besides, the profile store is as it was. -/
def SameStore (s t : State) : Prop := SameCore s t ∧ t.store = s.store

theorem sameStore_rfl (s : State) : SameStore s s := ⟨sameCore_rfl s, rfl⟩

theorem sameStore_readProfile (i : Nat) (s : State) : SameStore s (readProfile i s).state := by
  unfold readProfile
  dsimp only
  split <;> [exact sameStore_rfl s; split] <;> exact sameStore_rfl s

theorem sameStore_readTiltEntry (i : Nat) (s : State) : SameStore s (readTiltEntry i s).state := by
  unfold readTiltEntry
  split <;> [exact sameStore_rfl s; split] <;> exact sameStore_rfl s

theorem sameStore_readPoint (k : TableKind) (m : Option (List MapPoint)) (i : Nat) (s : State) :
    SameStore s (readPoint k m i s).state := by
  unfold readPoint
  split <;> [exact sameStore_rfl s; split] <;> exact sameStore_rfl s

theorem sameStore_readEntry (body : List Byte) (s : State) : SameStore s (readEntry body s).state := by
  unfold readEntry
  split <;> [split; exact sameStore_rfl s]
  · exact sameStore_rfl s
  · exact sameStore_readProfile _ s
  · exact sameStore_readTiltEntry _ s
  · exact sameStore_readPoint _ _ _ s
  · exact sameStore_readPoint _ _ _ s

theorem sameStore_paramRead (body : List Byte) (s : State) : SameStore s (paramRead body s).state := by
  unfold paramRead
  dsimp only
  split <;> exact sameStore_rfl s

theorem sameStore_fwdWrite (body : List Byte) (s : State) : SameStore s (fwdWrite body s).state := by
  unfold fwdWrite writeFwd
  repeat' split
  all_goals exact sameStore_rfl s

theorem sameStore_fwdRead (body : List Byte) (s : State) : SameStore s (fwdRead body s).state := by
  unfold fwdRead
  dsimp only
  split <;> exact sameStore_rfl s

theorem sameStore_maskWrite (body : List Byte) (s : State) : SameStore s (maskWrite body s).state := by
  unfold maskWrite writeMask
  repeat' split
  all_goals exact sameStore_rfl s

theorem sameStore_traceGate (body : List Byte) (s : State) : SameStore s (traceGate body s).state := by
  unfold traceGate
  split <;> exact sameStore_rfl s

theorem sameStore_traceRead (s : State) : SameStore s (traceRead s).state := by
  unfold traceRead
  split <;> exact sameStore_rfl s

theorem sameStore_burst (s : State) (u : Trace) : SameStore s (burst { s with trace := u }) := by
  simp [SameStore, SameCore]

theorem sameStore_traceRewind (s : State) : SameStore s (traceRewind s).state := by
  unfold traceRewind
  split
  · exact sameStore_rfl s
  · exact sameStore_burst s _

theorem sameStore_snapshot (s : State) : SameStore s (snapshot s).state := by
  show SameStore s (noteTarget s.chain.s s)
  simp [SameStore, SameCore]

/-! ## The step -/

/-- The state an outcome leaves, where there is one, has a property. -/
def Yields (P : State → Prop) : Host.Outcome State Fault Refusal → Prop
  | .next t => P t
  | .fault _ => True
  | .refused _ => True

theorem controlSound_takeTiltFrame {s : State} (f : Arrival) (h : ControlSound s) :
    ControlSound (takeTiltFrame f s) := by
  unfold takeTiltFrame
  split <;> exact controlSound_of_frame h {}

theorem controlSound_takeLoadEntry {s : State} (r : Request) (h : ControlSound s) :
    ControlSound (takeLoadEntry r s) := by
  unfold takeLoadEntry
  split
  · exact refusal_keeps controlSound_besideQueues codeLoadEntry r .sequence h
  · exact answerRequest_keeps controlSound_besideQueues
      (fun body t ht => controlSound_of_sameCore ht (sameCore_loadEntry _ body t)) h

theorem controlSound_departU {s : State} (h : ControlSound s) : ControlSound (departU s) := by
  unfold departU afterDeparture
  split <;> [exact h; split]
  · exact controlSound_masterReset _
  · exact controlSound_of_frame h {}

theorem controlSound_passUnclassified {s : State} (p : Port) (f : CanFrame) (h : ControlSound s) :
    ControlSound (passUnclassified p f s) := by
  unfold passUnclassified
  split
  · exact controlSound_of_frame h {}
  · exact h

/-- A request keeps the control state consistent where its rule does (R175). -/
theorem controlSound_answerRequest {code : Byte} {n : Nat} {r : Request} {act : List Byte → State → Answer} {s : State}
    (h : ControlSound s) (hact : ∀ body t, ControlSound t → ControlSound (act body t).state) :
    ControlSound (answerRequest code n r act s) :=
  answerRequest_keeps controlSound_besideQueues hact h

/-- A request whose rule leaves the control state alone keeps it consistent. -/
theorem controlSound_quietRequest {code : Byte} {n : Nat} {r : Request} {act : List Byte → State → Answer} {s : State}
    (h : ControlSound s) (hact : ∀ body t, SameCore t (act body t).state) :
    ControlSound (answerRequest code n r act s) :=
  controlSound_answerRequest h fun body t ht => controlSound_of_sameCore ht (hact body t)

theorem controlSound_exec {s : State} (c : Instr) (h : ControlSound s) : Yields ControlSound (exec c s) := by
  cases c with
  | powerOn straps =>
    show ControlSound (powerOn straps s)
    rw [powerOn_eq]
    exact controlSound_of_reset rfl rfl rfl
  | strike f => exact controlSound_takeStrike f h
  | tilt f => exact controlSound_takeTiltFrame f h
  | sync f => exact controlSound_of_frame (t := takeSync (forwardTaken .d clsSync f s)) h {}
  | manualValve f => exact controlSound_takeManual f h
  | forwardedFrame p id format data => exact controlSound_of_frame (t := forwardByTable p id _ s) h {}
  | unclassifiedFrame p f => exact controlSound_passUnclassified p f h
  | mgmtReqShortHeader prio src tag format byte => exact controlSound_of_frame (t := dropMalformed s) h {}
  | unknownRequest code r => exact refusal_keeps controlSound_besideQueues code r .unknown h
  | identify broadcast r => exact identify_keeps controlSound_besideQueues broadcast r h
  | snapshot r => exact controlSound_quietRequest h fun _ t => (sameStore_snapshot t).1
  | reset r => exact takeReset_keeps controlSound_besideQueues controlSound_masterReset r h
  | clearRun r => exact controlSound_answerRequest h fun _ t ht => controlSound_clearRun ht
  | paramRead r => exact controlSound_quietRequest h fun body t => (sameStore_paramRead body t).1
  | paramWrite r => exact controlSound_answerRequest h fun body t ht => controlSound_paramWrite body ht
  | loadBegin r => exact controlSound_quietRequest h sameCore_loadBegin
  | loadEntry r => exact controlSound_takeLoadEntry r h
  | loadCommit r => exact controlSound_quietRequest h sameCore_loadCommit
  | loadCancel r => exact controlSound_quietRequest h sameCore_loadCancel
  | readEntry r => exact controlSound_quietRequest h fun body t => (sameStore_readEntry body t).1
  | openRun r => exact controlSound_answerRequest h fun body t ht => controlSound_openRunRequest body ht
  | closeRun r => exact controlSound_answerRequest h fun _ t ht => controlSound_closeRun ht
  | bench r => exact controlSound_answerRequest h fun body t ht => controlSound_bench body ht
  | setDepth r => exact controlSound_answerRequest h fun body t ht => controlSound_setDepthRequest body ht
  | setModeAuto r => exact controlSound_answerRequest h fun body t ht => controlSound_takeModeAuto body ht
  | setModeManual r => exact controlSound_answerRequest h fun body t ht => controlSound_takeModeManual body ht
  | resume r => exact controlSound_answerRequest h fun _ t ht => controlSound_resume ht
  | clearTrip r => exact controlSound_answerRequest h fun _ t ht => controlSound_clearTrip ht
  | handover r => exact controlSound_answerRequest h fun body t ht => controlSound_handover body ht
  | adopt r => exact controlSound_answerRequest h fun body t ht => controlSound_adopt body ht
  | testStart r => exact controlSound_answerRequest h fun body t ht => controlSound_testStart body ht
  | testAbort r => exact controlSound_answerRequest h fun _ t ht => controlSound_testAbort ht
  | testResult r => exact controlSound_quietRequest h fun _ t => sameCore_rfl t
  | testApply r => exact controlSound_answerRequest h fun _ t ht => controlSound_testApply ht
  | fwdWrite r => exact controlSound_quietRequest h fun body t => (sameStore_fwdWrite body t).1
  | fwdRead r => exact controlSound_quietRequest h fun body t => (sameStore_fwdRead body t).1
  | traceRead r => exact controlSound_quietRequest h fun _ t => (sameStore_traceRead t).1
  | traceMark r => exact controlSound_quietRequest h fun _ t => (sameStore_burst t _).1
  | traceUnmark r => exact controlSound_quietRequest h fun _ t => (sameStore_burst t _).1
  | traceRewind r => exact controlSound_quietRequest h fun _ t => (sameStore_traceRewind t).1
  | traceGate r => exact controlSound_quietRequest h fun body t => (sameStore_traceGate body t).1
  | eventRead r => exact controlSound_quietRequest h fun _ t => sameCore_rfl t
  | maskWrite r => exact controlSound_quietRequest h fun body t => (sameStore_maskWrite body t).1
  | countersRead r => exact controlSound_quietRequest h fun _ t => sameCore_rfl t
  | countersClear r => exact controlSound_quietRequest h fun _ t => sameCore_rfl t
  | portUFrameDeparture => exact controlSound_departU h
  | arbiterTakesFrame => exact controlSound_of_frame (t := { s with portD := arbiterTakes s.portD }) h {}
  | lineLevelChange l high => exact controlSound_lineLevelChange l high h
  | acceptedOdoEdge => exact controlSound_filterExpiry .odo h
  | acceptedDirChange => exact controlSound_filterExpiry .dir h
  | acceptedDigChange => exact controlSound_filterExpiry .dig h
  | stopAcceptedActive =>
    show ControlSound (if s.lines.stop.active then s else filterExpiry .stop s)
    split <;> [exact h; exact controlSound_filterExpiry .stop h]
  | stopRelease =>
    show ControlSound (if s.lines.stop.active then filterExpiry .stop s else s)
    split <;> [exact controlSound_filterExpiry .stop h; exact h]
  | strikeTimeout c => exact controlSound_strikeTimeout c h
  | referenceTimeout => exact controlSound_referenceTimeout h
  | fadingTimeout => exact controlSound_fadingTimeout h
  | tiltExpiry => exact controlSound_of_frame (t := tiltExpiry s) h {}
  | outputTick => exact controlSound_of_frame (t := outputTick s) h {}
  | syncTimeout => exact controlSound_of_frame (t := syncTimeout s) h {}
  | holdDistanceExpiry =>
    show ControlSound (if holdDistanceDue s then filterExpiry .odo s else s)
    split <;> [exact controlSound_filterExpiry .odo h; exact h]
  | dwellClearMoment => exact controlSound_firstStep h
  | stepTimerExpiry => exact controlSound_stepTimerExpiry h
  | noBeamTimeout => exact controlSound_noBeamTimeout h

/-- A step keeps what every command keeps and what neither the queue nor the clock touches. -/
theorem step_keeps {P : State → Prop} (hexec : ∀ c s, P s → Yields P (exec c s))
    (hqueue : ∀ (s : State) (now : Clock) (l : List Instr) (n : Nat), P s →
      P { s with now := now, pending := l, choice := n })
    {s t : State} (h : P s) (hst : step s = .next t) : P t := by
  unfold step at hst
  split at hst
  · obtain rfl : idle s = t := by simpa using hst
    unfold idle
    split
    · exact hqueue s _ _ _ h
    · exact hqueue s _ _ _ h
  · rename_i c rest _
    have hy := hexec c _ (hqueue s s.now rest s.choice h)
    rw [hst] at hy
    exact hy

theorem step_keeps_controlSound {s t : State} (h : ControlSound s) (hst : step s = .next t) : ControlSound t :=
  step_keeps (fun c _ hs => controlSound_exec c hs) (fun _ _ _ _ hs => controlSound_of_eq hs rfl rfl rfl rfl) h hst

end Sys2Proof.Machine
end

section
/-! The tables' invariant (R15, R43, R46, R48, R53, R75, R77, R78, R124): every command keeps it, of a consistent control
state. -/
namespace Sys2Proof.Machine

/-! ## What the invariant reads -/

/-- The profile store is as it was, and so is the run, open or closed, with its grade. -/
structure SameTables (s t : State) : Prop where
  store : t.store = s.store := by simp
  isOpen : t.run.isOpen = s.run.isOpen := by simp
  grade : t.run.grade = s.run.grade := by simp

theorem tablesSound_of_same {s t : State} (h : TablesSound s) (k : SameTables s t) : TablesSound t := by
  obtain ⟨hs, ho, hg⟩ := k
  obtain ⟨active, tilt, raiseMap, lowerMap, run, takeover, session⟩ := h
  unfold tablesLoaded at run
  exact ⟨by rwa [hs], by rwa [hs], by rwa [hs], by rwa [hs], by rwa [tablesLoaded, hs, ho, hg], by rwa [hs, ho, hg],
    by rwa [hs]⟩

theorem tablesSound_besideQueues : BesideQueues TablesSound := by
  rintro s t ⟨-, -, -, -, -, -, -, hs, hr, -⟩ h
  exact tablesSound_of_same h ⟨hs, by rw [hr], by rw [hr]⟩

theorem tablesSound_of_sameStore {s t : State} (h : TablesSound s) (k : SameStore s t) : TablesSound t := by
  obtain ⟨⟨-, -, hr, -⟩, hs⟩ := k
  exact tablesSound_of_same h ⟨hs, by rw [hr], by rw [hr]⟩

theorem bankSound_emptyBank : BankSound emptyBank := ⟨by simp [emptyBank], rfl, rfl, rfl⟩

theorem tablesSound_of_reset {t : State} (hs : t.store = resetStore) (hr : t.run = resetRun) : TablesSound t :=
  ⟨by rw [hs]; exact bankSound_emptyBank, by simp [hs, resetStore], by simp [hs, resetStore], by simp [hs, resetStore],
    by simp [hr, resetRun], by simp [hs, resetStore], by simp [hs, resetStore]⟩

/-! ## The banks -/

@[simp] theorem swapBanks_store (s : State) : (swapBanks s).store =
    { s.store with active := s.store.staging, staging := emptyBank, takeover := none } := by
  simp [swapBanks]

/-- A pending takeover carried out (R49, R51, R54): the staged bank stands as promised. -/
theorem tablesSound_swapBanks {s : State} (h : TablesSound s) (ht : s.store.takeover.isSome = true) :
    TablesSound (swapBanks s) := by
  obtain ⟨hopen, hbank, hne, hbasis⟩ := h.takeover ht
  obtain ⟨hloaded, -⟩ := h.run hopen
  refine ⟨by simpa using hbank, by simpa using h.tilt, by simpa using h.raiseMap, by simpa using h.lowerMap, ?_,
    by simp, by simp⟩
  simp only [tablesLoaded, Bool.and_eq_true] at hloaded
  simp [tablesLoaded, hne, hbasis, hloaded]

theorem tablesSound_checkTakeover {s : State} (h : TablesSound s) : TablesSound (checkTakeover s) := by
  unfold checkTakeover
  split <;> [split; skip]
  · rename_i ht _
    exact tablesSound_swapBanks h (by simp [ht])
  all_goals exact h

theorem tablesSound_finishTakeover {s : State} (h : TablesSound s) : TablesSound (finishTakeover s) := by
  unfold finishTakeover
  split
  · rename_i ht
    exact tablesSound_swapBanks h ht
  · exact h

theorem takeover_finishTakeover (s : State) : (finishTakeover s).store.takeover = none := by
  unfold finishTakeover
  split
  · simp
  · rename_i ht
    simpa using ht

/-- With no takeover pending a run is closed freely (R79, R95). -/
theorem tablesSound_endRun {s : State} (h : TablesSound s) (ht : s.store.takeover = none) : TablesSound (endRun s) :=
  ⟨h.active, h.tilt, h.raiseMap, h.lowerMap, by simp, by simp [ht], by simp [ht]⟩

theorem tablesSound_closeRun {s : State} (h : TablesSound s) : TablesSound (closeRun s).state := by
  unfold closeRun
  split
  · have he := tablesSound_endRun (tablesSound_finishTakeover h) (takeover_finishTakeover s)
    exact tablesSound_of_same (t := releaseControl .standby (endRun (finishTakeover s))) he {}
  · exact h

theorem tablesSound_clearRun {s : State} (h : TablesSound s) : TablesSound (clearRun s) := by
  have hc : TablesSound (clearPrior (closeRunningTest .request s)) := tablesSound_of_same h {}
  have he := tablesSound_endRun (tablesSound_finishTakeover hc) (takeover_finishTakeover _)
  refine tablesSound_of_same he ?_
  unfold clearRun clearBlocks clearControl
  dsimp only
  split
  · exact {}
  · exact ⟨by simp, by simp, by simp⟩

/-- OPEN_RUN rebases the ACTIVE bank to the laser grade, its base offsets in range (R53, R78). In STANDBY the run is
closed, so no takeover is pending. -/
theorem tablesSound_openRun {s : State} (start : Nat) (g : Int) (discard : Bool) (h : TablesSound s)
    (hclosed : s.run.isOpen = false) (hl : tablesLoaded s = true)
    (hr : offsetsInRange (baseOffsets g s.store.active.entries) = true) :
    TablesSound (openRun start g discard s) := by
  have ht : s.store.takeover = none := by
    by_contra hn
    have := (h.takeover (Option.isSome_iff_ne_none.2 hn)).1
    simp [hclosed] at this
  have hstore : (openRun start g discard s).store = { s.store with active := rebased g s.store.active } := by
    simp [openRun]
  have hgrade : (openRun start g discard s).run.grade = g := by simp [openRun]
  refine ⟨?_, by simpa [hstore] using h.tilt, by simpa [hstore] using h.raiseMap, by simpa [hstore] using h.lowerMap,
    ?_, by simp [hstore, ht], by simp [hstore, ht]⟩
  · rw [hstore]
    exact ⟨h.active.first, h.active.rising, rfl, hr⟩
  · intro _
    exact ⟨by simpa [tablesLoaded, hstore, rebased] using hl, by simp [hstore, hgrade, rebased]⟩

/-! ## Lines and edges -/

theorem tablesSound_countEdge {s : State} (w : Bool) (h : TablesSound s) : TablesSound (countEdge w s) := by
  have hm : TablesSound (moveEdge w s) := tablesSound_of_same h {}
  refine tablesSound_of_same (tablesSound_checkTakeover hm) ?_
  unfold countEdge
  dsimp only
  split <;> exact ⟨by simp, by simp, by simp⟩

theorem tablesSound_odoEdge {s : State} (w : Bool) (h : TablesSound s) : TablesSound (odoEdge w s) := by
  unfold odoEdge
  split
  · exact tablesSound_of_same (tablesSound_countEdge w h) {}
  · exact tablesSound_of_same h {}

theorem tablesSound_acceptLine {s : State} (l : Line) (h : TablesSound s) : TablesSound (acceptLine l s) := by
  unfold acceptLine
  dsimp only
  generalize hu : setLine l { lineOf s l with active := !(lineOf s l).active, since := none } s = u
  have hl : TablesSound u := tablesSound_of_same h (by rw [← hu]; exact {})
  cases l with
  | odo =>
    dsimp only
    split <;> [exact tablesSound_odoEdge _ hl; exact hl]
  | dir => exact hl
  | dig => exact hl
  | stop =>
    dsimp only
    split <;> [exact hl; exact tablesSound_of_same hl {}]

theorem tablesSound_filterExpiry {s : State} (l : Line) (h : TablesSound s) : TablesSound (filterExpiry l s) := by
  unfold filterExpiry
  split <;> [exact tablesSound_acceptLine l h; exact h]

theorem tablesSound_lineLevelChange {s : State} (l : Line) (high : Bool) (h : TablesSound s) :
    TablesSound (lineLevelChange l high s) := by
  have start : ∀ t, TablesSound t → TablesSound (startCandidate l t) := by
    intro t ht
    have hl : TablesSound (setLine l { lineOf t l with since := some t.now } t) := tablesSound_of_same ht {}
    unfold startCandidate
    dsimp only
    split <;> [split; skip]
    · exact tablesSound_acceptLine l hl
    · exact hl
    · exact ht
  unfold lineLevelChange
  dsimp only
  split
  · exact tablesSound_of_same h {}
  · exact start _ (tablesSound_of_same h {})

/-! ## Parameters -/

theorem sameTables_expireAll (s : State) : SameTables s (expireAll s) := by
  rw [expireAll_eq]
  split <;> exact ⟨by simp [expireBeams], by simp [expireBeams], by simp [expireBeams]⟩

theorem sameTables_modeEffects (s : State) :
    (∀ old, SameTables s (depthModeEffect old s)) ∧ (∀ old, SameTables s (travelModeEffect old s)) ∧
    (∀ old, SameTables s (tickSourceEffect old s)) ∧ SameTables s (tickEffect s) := by
  refine ⟨fun old => ?_, fun old => ?_, fun old => ?_, ?_⟩
  · unfold depthModeEffect
    split <;> [split; skip] <;> exact {}
  · unfold travelModeEffect
    split <;> exact {}
  · unfold tickSourceEffect
    split <;> exact {}
  · unfold tickEffect
    dsimp only
    split <;> exact {}

theorem tablesSound_paramEffect {s : State} (id : Nat) (old : Params) (h : TablesSound s) :
    TablesSound (paramEffect id old s) := by
  obtain ⟨hd, ht, hsrc, htick⟩ := sameTables_modeEffects s
  unfold paramEffect
  split
  · exact tablesSound_of_same h {}
  · exact tablesSound_of_same h (sameTables_expireAll s)
  · exact tablesSound_of_same h {}
  · exact tablesSound_filterExpiry _ h
  · exact tablesSound_filterExpiry _ h
  · exact tablesSound_filterExpiry _ h
  · exact tablesSound_filterExpiry _ h
  · exact tablesSound_of_same h ⟨rfl, rfl, rfl⟩
  · exact tablesSound_of_same h htick
  · exact tablesSound_of_same h (hsrc _)
  · exact tablesSound_of_same h {}
  · exact tablesSound_of_same h (hd _)
  · exact tablesSound_of_same h (ht _)
  · exact tablesSound_of_same h {}
  · exact tablesSound_of_same h {}
  · exact tablesSound_of_same h {}
  · exact tablesSound_of_same h {}
  · exact h

theorem tablesSound_paramWrite {s : State} (body : List Byte) (h : TablesSound s) :
    TablesSound (paramWrite body s).state := by
  obtain hs | ⟨id, v, hs⟩ := paramWrite_state body s <;> rw [hs]
  · exact h
  · exact tablesSound_paramEffect id s.params (tablesSound_of_same h {})

/-! ## Load sessions -/

/-- With no takeover pending the STAGING bank, the shared area and the session are free (R43, R48). -/
theorem tablesSound_of_freeStaging {s t : State} (h : TablesSound s) (hrun : t.run = s.run)
    (hactive : t.store.active = s.store.active) (htilt : t.store.tiltTable = s.store.tiltTable)
    (hraise : t.store.raiseMap = s.store.raiseMap) (hlower : t.store.lowerMap = s.store.lowerMap)
    (htake : t.store.takeover = none) : TablesSound t :=
  ⟨by rw [hactive]; exact h.active, by rw [htilt]; exact h.tilt, by rw [hraise]; exact h.raiseMap,
    by rw [hlower]; exact h.lowerMap,
    by rw [hrun, tablesLoaded, hactive, htilt, hraise, hlower]; exact h.run, by simp [htake], by simp [htake]⟩

/-- The shared area is free, and a session of another kind than PROFILE may be open (R179). -/
theorem tablesSound_of_session {s t : State} (h : TablesSound s) (hrun : t.run = s.run)
    (hactive : t.store.active = s.store.active) (hstaging : t.store.staging = s.store.staging)
    (htilt : t.store.tiltTable = s.store.tiltTable)
    (hraise : t.store.raiseMap = s.store.raiseMap) (hlower : t.store.lowerMap = s.store.lowerMap)
    (htake : t.store.takeover = s.store.takeover) (hkind : ∀ sn, t.store.session = some sn → sn.kind ≠ .profile) :
    TablesSound t :=
  ⟨by rw [hactive]; exact h.active, by rw [htilt]; exact h.tilt, by rw [hraise]; exact h.raiseMap,
    by rw [hlower]; exact h.lowerMap,
    by rw [hrun, tablesLoaded, hactive, htilt, hraise, hlower]; exact h.run,
    by rw [htake, hstaging, hrun]; exact h.takeover, fun _ => hkind⟩

theorem tablesSound_loadBegin {s : State} (body : List Byte) (h : TablesSound s) :
    TablesSound (loadBegin body s).state := by
  unfold loadBegin
  split <;> [exact h; skip]
  split <;> [exact h; skip]
  split <;> [exact h; skip]
  rename_i k _ _ hk
  cases k with
  | profile =>
    exact tablesSound_of_freeStaging h rfl rfl rfl rfl rfl (by simpa [done, setStore, openSession] using hk)
  | tilt => exact tablesSound_of_session h rfl rfl rfl rfl rfl rfl rfl (by simp [done, setStore, openSession])
  | valveRaise => exact tablesSound_of_session h rfl rfl rfl rfl rfl rfl rfl (by simp [done, setStore, openSession])
  | valveLower => exact tablesSound_of_session h rfl rfl rfl rfl rfl rfl rfl (by simp [done, setStore, openSession])

/-- An entry staged leaves the committed tables, the pending record and, but for a profile's, the STAGING bank (R180). -/
theorem stageEntry_frame {k : TableKind} {body : List Byte} {p q : ProfileStore} (h : stageEntry k body p = some q) :
    q.active = p.active ∧ q.tiltTable = p.tiltTable ∧ q.raiseMap = p.raiseMap ∧ q.lowerMap = p.lowerMap ∧
    q.takeover = p.takeover ∧ (k ≠ .profile → q.staging = p.staging) := by
  cases k with
  | profile =>
    simp only [stageEntry] at h
    split at h <;> [split at h; skip] <;> cases h
    simp
  | tilt | valveRaise | valveLower =>
    simp only [stageEntry, Option.map_eq_some_iff] at h
    obtain ⟨e, -, rfl⟩ := h
    simp

theorem tablesSound_loadEntry {s : State} {sn : Session} (hsn : s.store.session = some sn) (body : List Byte)
    (h : TablesSound s) : TablesSound (loadEntry sn body s).state := by
  unfold loadEntry
  split <;> [exact h; skip]
  split <;> [exact h; skip]
  rename_i p hp
  obtain ⟨hactive, htilt, hraise, hlower, htake, hstaging⟩ := stageEntry_frame hp
  by_cases hk : sn.kind = .profile
  · have hnone : s.store.takeover = none := by
      by_contra hn
      exact h.session (Option.isSome_iff_ne_none.2 hn) sn hsn hk
    exact tablesSound_of_freeStaging h rfl hactive htilt hraise hlower (htake.trans hnone)
  · refine tablesSound_of_session h rfl hactive (hstaging hk) htilt hraise hlower htake ?_
    rintro _ ⟨⟩
    exact hk

theorem tablesSound_loadCancel {s : State} (body : List Byte) (h : TablesSound s) :
    TablesSound (loadCancel body s).state := by
  unfold loadCancel
  split <;> [exact h; skip]
  unfold cancelKind
  split <;> [split; split]
  · exact h
  · exact tablesSound_of_freeStaging h rfl rfl rfl rfl rfl rfl
  · exact tablesSound_of_session h rfl rfl rfl rfl rfl rfl rfl (by simp [done, setStore])
  · exact h

/-- The STAGING bank of a valid profile is sound and not empty (R45, R46). -/
theorem bankSound_committedStaging {n : Nat} {s : State} (h : profileValid n s = true) :
    BankSound (committedStaging s) ∧ (committedStaging s).entries ≠ [] := by
  simp only [profileValid, Bool.and_eq_true, decide_eq_true_eq, beq_iff_eq] at h
  obtain ⟨⟨⟨⟨hne, hfirst⟩, hrising⟩, hrange⟩, -⟩ := h
  refine ⟨⟨fun e he => ?_, hrising, rfl, hrange⟩, hne⟩
  have he : s.store.staging.entries.head? = some e := he
  simpa [he] using hfirst

/-- A valid profile committed waits against the laser grade with a run open, and is ACTIVE at once with none (R46 to R48). -/
theorem tablesSound_commitProfile {n : Nat} {s : State} (h : TablesSound s) (hv : profileValid n s = true) :
    TablesSound (commitProfile n s) := by
  obtain ⟨hbank, hne⟩ := bankSound_committedStaging hv
  unfold commitProfile
  dsimp only
  split
  · rename_i hopen
    exact ⟨h.active, h.tilt, h.raiseMap, h.lowerMap, h.run,
      fun _ => ⟨hopen, hbank, hne, by simp [setStore, committedStaging, commitBasis, hopen]⟩, by simp [setStore]⟩
  · rename_i hclosed
    exact ⟨by simpa [setStore] using hbank, by simpa [setStore] using h.tilt, by simpa [setStore] using h.raiseMap,
      by simpa [setStore] using h.lowerMap, by simp [setStore, hclosed], by simp, by simp⟩

/-- A valid table put in place of a committed one, or where there was none (R15, R124, R141). -/
theorem tablesSound_of_tables {s t : State} (h : TablesSound s) (hrun : t.run = s.run)
    (hbanks : t.store.active = s.store.active ∧ t.store.staging = s.store.staging ∧ t.store.takeover = s.store.takeover)
    (htilt : t.store.tiltTable = s.store.tiltTable ∨ ∃ l, t.store.tiltTable = some l ∧ l.length = 25)
    (hraise : t.store.raiseMap = s.store.raiseMap ∨ ∃ m, t.store.raiseMap = some m ∧ mapValid m = true)
    (hlower : t.store.lowerMap = s.store.lowerMap ∨ ∃ m, t.store.lowerMap = some m ∧ mapValid m = true)
    (hsession : t.store.session = none ∨ t.store.session = s.store.session) : TablesSound t := by
  obtain ⟨hactive, hstaging, htake⟩ := hbanks
  obtain ⟨active, tilt, raiseMap, lowerMap, run, takeover, session⟩ := h
  refine ⟨by rwa [hactive], ?_, ?_, ?_, fun ho => ?_, by rwa [htake, hstaging, hrun], ?_⟩
  · obtain hk | ⟨l, hk, hl⟩ := htilt <;> rw [hk] <;> [exact tilt; simpa using hl]
  · obtain hk | ⟨l, hk, hl⟩ := hraise <;> rw [hk] <;> [exact raiseMap; simpa using hl]
  · obtain hk | ⟨l, hk, hl⟩ := hlower <;> rw [hk] <;> [exact lowerMap; simpa using hl]
  · obtain ⟨hloaded, hbasis⟩ := run (hrun ▸ ho)
    simp only [tablesLoaded, Bool.and_eq_true] at hloaded
    obtain ⟨⟨⟨hne, ht⟩, hr⟩, hl⟩ := hloaded
    have present : ∀ {α : Type} {x y : Option α} {q : α → Prop}, y.isSome = true → (x = y ∨ ∃ a, x = some a ∧ q a) →
        x.isSome = true := by
      rintro α x y q hy (rfl | ⟨a, rfl, -⟩) <;> [exact hy; rfl]
    refine ⟨?_, by rw [hactive, hrun]; exact hbasis⟩
    simp only [tablesLoaded, Bool.and_eq_true]
    exact ⟨⟨⟨by rwa [hactive], present ht htilt⟩, present hr hraise⟩, present hl hlower⟩
  · obtain hk | hk := hsession <;> rw [hk] <;> [simp; rwa [htake]]

/-- A valid table replaces the committed one (R15, R124). -/
theorem tablesSound_commitTable {k : TableKind} {n : Nat} {s : State} (h : TablesSound s) (hk : k ≠ .profile)
    (hv : stagingValid k n s = true) : TablesSound (setStore (commitTable k s.store) s) := by
  cases k with
  | profile => exact absurd rfl hk
  | tilt =>
    exact tablesSound_of_tables h rfl ⟨rfl, rfl, rfl⟩ (Or.inr ⟨_, rfl, by simpa [stagingValid] using hv⟩) (Or.inl rfl)
      (Or.inl rfl) (Or.inl rfl)
  | valveRaise =>
    exact tablesSound_of_tables h rfl ⟨rfl, rfl, rfl⟩ (Or.inl rfl) (Or.inr ⟨_, rfl, hv⟩) (Or.inl rfl) (Or.inl rfl)
  | valveLower =>
    exact tablesSound_of_tables h rfl ⟨rfl, rfl, rfl⟩ (Or.inl rfl) (Or.inl rfl) (Or.inr ⟨_, rfl, hv⟩) (Or.inl rfl)

theorem tablesSound_loadCommit {s : State} (body : List Byte) (h : TablesSound s) :
    TablesSound (loadCommit body s).state := by
  unfold loadCommit
  split <;> [skip; exact h]
  unfold commitSession
  split <;> [exact h; skip]
  split <;> [exact h; skip]
  split <;> [exact h; skip]
  rename_i sn _ _ hv
  simp only [Bool.not_eq_true', Bool.not_eq_false] at hv
  split
  · rename_i hk
    rw [hk] at hv
    exact tablesSound_commitProfile h hv
  all_goals
    rename_i hk
    split <;> [exact h; exact tablesSound_commitTable h (by simp [hk]) hv]

/-- A valid map stays valid with a lowest current that does not pass the second one (R124, R141). -/
theorem mapValid_applyCurrent {m : List MapPoint} {i : Nat} (h : mapValid m = true)
    (hi : i ≤ (m.getD 1 ⟨0, 0⟩).i) : mapValid (applyCurrent i m) = true := by
  match m with
  | [] => simp [mapValid] at h
  | [a] => simp [mapValid] at h
  | a :: b :: rest =>
    have hi : i ≤ b.i := by simpa using hi
    simp only [mapValid, applyCurrent, pointsOrdered, Bool.and_eq_true, decide_eq_true_eq] at h ⊢
    obtain ⟨⟨⟨-, hfirst⟩, hlast⟩, ⟨hd, -⟩, hrest⟩ := h
    exact ⟨⟨⟨by simp, hfirst⟩, by simpa using hlast⟩, ⟨hd, hi⟩, hrest⟩

theorem tablesSound_testApply {s : State} (h : TablesSound s) : TablesSound (testApply s).state := by
  obtain hs | ⟨d, i, m, hm, -, hi, hs⟩ := testApply_state s <;> rw [hs]
  · exact h
  · cases d with
    | raise =>
      exact tablesSound_of_tables h rfl ⟨rfl, rfl, rfl⟩ (Or.inl rfl)
        (Or.inr ⟨_, rfl, mapValid_applyCurrent (h.raiseMap m hm) hi⟩) (Or.inl rfl) (Or.inr rfl)
    | lower =>
      exact tablesSound_of_tables h rfl ⟨rfl, rfl, rfl⟩ (Or.inl rfl) (Or.inl rfl)
        (Or.inr ⟨_, rfl, mapValid_applyCurrent (h.lowerMap m hm) hi⟩) (Or.inr rfl)

/-! ## The other commands -/

theorem sameTables_takeStrike (f : Arrival) (s : State) : SameTables s (takeStrike f s) := by
  unfold takeStrike
  split
  · exact {}
  · unfold handleStrike
    exact ⟨by simp, by simp, by simp⟩

theorem sameTables_takeManual (f : Arrival) (s : State) : SameTables s (takeManual f s) := by
  unfold takeManual gateManual override
  split <;> [exact {}; skip]
  repeat' split
  all_goals exact ⟨by simp, by simp, by simp⟩

/-- BENCH fixes the depth setting and leaves the run's grade and the tables (R80). -/
theorem sameTables_bench (body : List Byte) (s : State) : SameTables s (bench body s).state := by
  obtain hb | ⟨-, c, d, hb⟩ := bench_state body s <;> rw [hb]
  · exact {}
  · unfold finishBench
    split <;> [exact ⟨rfl, rfl, rfl⟩; skip]
    dsimp only
    have hn : SameTables s (noteTarget s.chain.s s) := {}
    have hu : SameTables s (benchBeam c (noteTarget s.chain.s s)) := by
      unfold benchBeam
      exact {}
    split <;> [exact hn; skip]
    split <;> [exact ⟨hn.store, hn.isOpen, hn.grade⟩; exact ⟨hu.store, hu.isOpen, hu.grade⟩]

theorem sameTables_setDepthRequest (body : List Byte) (s : State) : SameTables s (setDepthRequest body s).state := by
  unfold setDepthRequest setDepth
  repeat' split
  all_goals exact ⟨rfl, rfl, rfl⟩

theorem sameTables_releaseControl (new : CtlState) (s : State) : SameTables s (releaseControl new s) := {}

theorem sameTables_takeModeAuto (body : List Byte) (s : State) : SameTables s (takeModeAuto body s).state := by
  unfold takeModeAuto setModeAuto
  split <;> [split; skip] <;> exact ⟨rfl, rfl, rfl⟩

theorem sameTables_takeModeManual (body : List Byte) (s : State) : SameTables s (takeModeManual body s).state := by
  unfold takeModeManual setModeManual
  split <;> [split; skip] <;> [exact sameTables_releaseControl _ s; exact ⟨rfl, rfl, rfl⟩; exact ⟨rfl, rfl, rfl⟩]

theorem sameTables_resume (s : State) : SameTables s (resume s).state := by
  unfold resume
  split <;> exact ⟨rfl, rfl, rfl⟩

theorem sameTables_clearTrip (s : State) : SameTables s (clearTrip s).state := by
  unfold clearTrip
  split <;> [exact ⟨rfl, rfl, rfl⟩; exact sameTables_releaseControl _ s]

theorem sameTables_handover (body : List Byte) (s : State) : SameTables s (handover body s).state := by
  have ht : ∀ c, SameTables s (handoverTo c s) := fun c => by
    unfold handoverTo
    exact {}
  unfold handover
  split <;> [exact ⟨rfl, rfl, rfl⟩; split] <;> [exact ht _; exact ⟨rfl, rfl, rfl⟩]

theorem sameTables_adopt (body : List Byte) (s : State) : SameTables s (adopt body s).state := by
  unfold adopt adoptBeam
  repeat' split
  all_goals exact ⟨rfl, rfl, rfl⟩

theorem sameTables_testStart (body : List Byte) (s : State) : SameTables s (testStart body s).state := by
  have ht : ∀ d c b, SameTables s (startTest d c b s) := fun d c b => by
    unfold startTest
    exact ⟨by simp, by simp, by simp⟩
  unfold testStart
  split <;> [exact ⟨rfl, rfl, rfl⟩; skip]
  split <;> [exact ⟨rfl, rfl, rfl⟩; skip]
  split <;> [exact ⟨rfl, rfl, rfl⟩; skip]
  split <;> [exact ⟨rfl, rfl, rfl⟩; skip]
  split <;> [exact ⟨rfl, rfl, rfl⟩; skip]
  split <;> [exact ht _ _ _; exact ⟨rfl, rfl, rfl⟩]

theorem sameTables_testAbort (s : State) : SameTables s (testAbort s).state := by
  have ht : SameTables s (endTest .request s) := {}
  unfold testAbort
  split <;> [exact ht; exact ⟨rfl, rfl, rfl⟩]

theorem tablesSound_takeLoadEntry {s : State} (r : Request) (h : TablesSound s) : TablesSound (takeLoadEntry r s) := by
  unfold takeLoadEntry
  split
  · exact refusal_keeps tablesSound_besideQueues codeLoadEntry r .sequence h
  · rename_i sn hsn
    have hf := forwardRequest_keeps tablesSound_besideQueues s.node codeLoadEntry r h
    unfold answerRequest
    dsimp only
    split
    · exact sendReply_keeps tablesSound_besideQueues codeLoadEntry r hf
    · exact sendReply_keeps tablesSound_besideQueues codeLoadEntry r (tablesSound_loadEntry (by simpa using hsn) _ hf)

theorem tablesSound_masterReset (s : State) : TablesSound (masterReset s) := by
  rw [masterReset_eq]
  exact tablesSound_of_reset rfl rfl

theorem tablesSound_departU {s : State} (h : TablesSound s) : TablesSound (departU s) := by
  unfold departU afterDeparture
  split <;> [exact h; split]
  · exact tablesSound_masterReset _
  · exact tablesSound_of_same h {}

theorem sameTables_passUnclassified (p : Port) (f : CanFrame) (s : State) :
    SameTables s (passUnclassified p f s) := by
  unfold passUnclassified
  split <;> exact {}

theorem tablesSound_openRunRequest {s : State} (body : List Byte) (hc : ControlSound s) (h : TablesSound s) :
    TablesSound (openRunRequest body s).state := by
  obtain hr | ⟨start, g, discard, hs, hl, hrange, hr⟩ := openRunRequest_state body s <;> rw [hr]
  · exact h
  · exact tablesSound_openRun start g discard h (hc.closed (Or.inl hs)) hl hrange

/-- A request keeps the tables where its rule does (R175). -/
theorem tablesSound_answerRequest {code : Byte} {n : Nat} {r : Request} {act : List Byte → State → Answer} {s : State}
    (h : TablesSound s) (hact : ∀ body t, TablesSound t → TablesSound (act body t).state) :
    TablesSound (answerRequest code n r act s) :=
  answerRequest_keeps tablesSound_besideQueues hact h

/-- A request whose rule leaves the tables and the run alone keeps them. -/
theorem tablesSound_quietRequest {code : Byte} {n : Nat} {r : Request} {act : List Byte → State → Answer} {s : State}
    (h : TablesSound s) (hact : ∀ body t, SameTables t (act body t).state) :
    TablesSound (answerRequest code n r act s) :=
  tablesSound_answerRequest h fun body t ht => tablesSound_of_same ht (hact body t)

/-- A request that only reports keeps the tables. -/
theorem tablesSound_reportRequest {code : Byte} {n : Nat} {r : Request} {act : List Byte → State → Answer} {s : State}
    (h : TablesSound s) (hact : ∀ body t, SameStore t (act body t).state) :
    TablesSound (answerRequest code n r act s) :=
  tablesSound_answerRequest h fun body t ht => tablesSound_of_sameStore ht (hact body t)

/-- OPEN_RUN is the one command that needs the control state: in STANDBY the run is closed. -/
theorem tablesSound_takeOpenRun {s : State} (r : Request) (hc : ControlSound s) (h : TablesSound s) :
    TablesSound (answerRequest codeOpenRun 7 r openRunRequest s) := by
  have hb : BesideQueues fun t => ControlSound t ∧ TablesSound t := fun s t hst ht =>
    ⟨controlSound_besideQueues s t hst ht.1, tablesSound_besideQueues s t hst ht.2⟩
  refine (answerRequest_keeps hb (fun body t ht => ?_) ⟨hc, h⟩).2
  exact ⟨controlSound_openRunRequest body ht.1, tablesSound_openRunRequest body ht.1 ht.2⟩

theorem tablesSound_exec {s : State} (c : Instr) (hc : ControlSound s) (h : TablesSound s) :
    Yields TablesSound (exec c s) := by
  cases c with
  | powerOn straps =>
    show TablesSound (powerOn straps s)
    rw [powerOn_eq]
    exact tablesSound_of_reset rfl rfl
  | strike f => exact tablesSound_of_same h (sameTables_takeStrike f s)
  | tilt f =>
    show TablesSound (takeTiltFrame f s)
    unfold takeTiltFrame
    split <;> exact tablesSound_of_same h {}
  | sync f => exact tablesSound_of_same (t := takeSync (forwardTaken .d clsSync f s)) h {}
  | manualValve f => exact tablesSound_of_same h (sameTables_takeManual f s)
  | forwardedFrame p id format data => exact tablesSound_of_same (t := forwardByTable p id _ s) h {}
  | unclassifiedFrame p f => exact tablesSound_of_same h (sameTables_passUnclassified p f s)
  | mgmtReqShortHeader prio src tag format byte => exact tablesSound_of_same (t := dropMalformed s) h {}
  | unknownRequest code r => exact refusal_keeps tablesSound_besideQueues code r .unknown h
  | identify broadcast r => exact identify_keeps tablesSound_besideQueues broadcast r h
  | snapshot r => exact tablesSound_reportRequest h fun _ t => sameStore_snapshot t
  | reset r => exact takeReset_keeps tablesSound_besideQueues tablesSound_masterReset r h
  | clearRun r => exact tablesSound_answerRequest h fun _ t ht => tablesSound_clearRun ht
  | paramRead r => exact tablesSound_reportRequest h sameStore_paramRead
  | paramWrite r => exact tablesSound_answerRequest h fun body t ht => tablesSound_paramWrite body ht
  | loadBegin r => exact tablesSound_answerRequest h fun body t ht => tablesSound_loadBegin body ht
  | loadEntry r => exact tablesSound_takeLoadEntry r h
  | loadCommit r => exact tablesSound_answerRequest h fun body t ht => tablesSound_loadCommit body ht
  | loadCancel r => exact tablesSound_answerRequest h fun body t ht => tablesSound_loadCancel body ht
  | readEntry r => exact tablesSound_reportRequest h sameStore_readEntry
  | openRun r => exact tablesSound_takeOpenRun r hc h
  | closeRun r => exact tablesSound_answerRequest h fun _ t ht => tablesSound_closeRun ht
  | bench r => exact tablesSound_quietRequest h sameTables_bench
  | setDepth r => exact tablesSound_quietRequest h sameTables_setDepthRequest
  | setModeAuto r => exact tablesSound_quietRequest h sameTables_takeModeAuto
  | setModeManual r => exact tablesSound_quietRequest h sameTables_takeModeManual
  | resume r => exact tablesSound_quietRequest h fun _ t => sameTables_resume t
  | clearTrip r => exact tablesSound_quietRequest h fun _ t => sameTables_clearTrip t
  | handover r => exact tablesSound_quietRequest h sameTables_handover
  | adopt r => exact tablesSound_quietRequest h sameTables_adopt
  | testStart r => exact tablesSound_quietRequest h sameTables_testStart
  | testAbort r => exact tablesSound_quietRequest h fun _ t => sameTables_testAbort t
  | testResult r => exact tablesSound_reportRequest h fun _ t => sameStore_rfl t
  | testApply r => exact tablesSound_answerRequest h fun _ t ht => tablesSound_testApply ht
  | fwdWrite r => exact tablesSound_reportRequest h sameStore_fwdWrite
  | fwdRead r => exact tablesSound_reportRequest h sameStore_fwdRead
  | traceRead r => exact tablesSound_reportRequest h fun _ t => sameStore_traceRead t
  | traceMark r => exact tablesSound_reportRequest h fun _ t => sameStore_burst t _
  | traceUnmark r => exact tablesSound_reportRequest h fun _ t => sameStore_burst t _
  | traceRewind r => exact tablesSound_reportRequest h fun _ t => sameStore_traceRewind t
  | traceGate r => exact tablesSound_reportRequest h sameStore_traceGate
  | eventRead r => exact tablesSound_reportRequest h fun _ t => sameStore_rfl t
  | maskWrite r => exact tablesSound_reportRequest h sameStore_maskWrite
  | countersRead r => exact tablesSound_reportRequest h fun _ t => sameStore_rfl t
  | countersClear r => exact tablesSound_reportRequest h fun _ t => sameStore_rfl t
  | portUFrameDeparture => exact tablesSound_departU h
  | arbiterTakesFrame => exact tablesSound_of_same (t := { s with portD := arbiterTakes s.portD }) h {}
  | lineLevelChange l high => exact tablesSound_lineLevelChange l high h
  | acceptedOdoEdge => exact tablesSound_filterExpiry .odo h
  | acceptedDirChange => exact tablesSound_filterExpiry .dir h
  | acceptedDigChange => exact tablesSound_filterExpiry .dig h
  | stopAcceptedActive =>
    show TablesSound (if s.lines.stop.active then s else filterExpiry .stop s)
    split <;> [exact h; exact tablesSound_filterExpiry .stop h]
  | stopRelease =>
    show TablesSound (if s.lines.stop.active then filterExpiry .stop s else s)
    split <;> [exact tablesSound_filterExpiry .stop h; exact h]
  | strikeTimeout c => exact tablesSound_of_same (t := strikeTimeout c s) h {}
  | referenceTimeout => exact tablesSound_of_same (t := referenceTimeout s) h {}
  | fadingTimeout => exact tablesSound_of_same (t := fadingTimeout s) h {}
  | tiltExpiry => exact tablesSound_of_same (t := tiltExpiry s) h {}
  | outputTick => exact tablesSound_of_same (t := outputTick s) h {}
  | syncTimeout => exact tablesSound_of_same (t := syncTimeout s) h {}
  | holdDistanceExpiry =>
    show TablesSound (if holdDistanceDue s then filterExpiry .odo s else s)
    split <;> [exact tablesSound_filterExpiry .odo h; exact h]
  | dwellClearMoment => exact tablesSound_of_same (t := firstStep s) h {}
  | stepTimerExpiry => exact tablesSound_of_same (t := stepTimerExpiry s) h {}
  | noBeamTimeout => exact tablesSound_of_same (t := noBeamTimeout s) h {}

end Sys2Proof.Machine

namespace Sys2Proof.Scope

open Machine

/-- Settles O11: every command keeps the control state consistent, and of a consistent one the tables. -/
theorem stepKeepsTablesSound : Obligations.StepKeepsTablesSound := by
  rintro s t h hst
  refine step_keeps (P := fun s => ControlSound s ∧ TablesSound s) (fun c s h => ?_) (fun s now l n h => ?_) h hst
  · obtain ⟨hc, ht⟩ := h
    have kc := controlSound_exec c hc
    have kt := tablesSound_exec c hc ht
    cases hx : exec c s <;> rw [hx] at kc kt <;> [exact ⟨kc, kt⟩; trivial; trivial]
  · exact ⟨controlSound_of_eq h.1 rfl rfl rfl rfl, tablesSound_of_same h.2 ⟨rfl, rfl, rfl⟩⟩

end Sys2Proof.Scope
end

section
/-! The values after power-on, the tilt record and the strike timeout (R6, R12, R13, R14, R22, R25, R62, R96, R130, R157, R163,
R176, R188, R190, R199). -/

namespace Sys2Proof.Machine

/-! ## The tilt record -/

theorem parseTilt_of_range {hi lo q : Byte} {rest : List Byte} (h : (int2 hi lo).natAbs ≤ 9000) :
    parseTilt (hi :: lo :: q :: rest) = some (int2 hi lo) := by
  simp [parseTilt, h]

/-- A well-formed TILT frame: the held tilt is clamped, and one outside its range is latched (R12). -/
theorem takeTilt_eq (z : Int) (s : State) : takeTilt z s =
    let held (v : Int) : State := { s with tilt := ⟨v, some s.now.ms, true⟩ }
    if 1200 < z then latch .tiltRange none s.chain.s (held 1200)
    else if z < -1200 then latch .tiltRange none s.chain.s (held (-1200))
    else held z := by
  by_cases hhi : 1200 < z
  · have hlo : ¬ z < -1200 := by omega
    have habs : 1200 < z.natAbs := by omega
    simp [takeTilt, clampInt, latchHere, hhi, hlo, habs]
  · by_cases hlo : z < -1200
    · have habs : 1200 < z.natAbs := by omega
      simp [takeTilt, clampInt, latchHere, hhi, hlo, habs]
    · have habs : ¬ 1200 < z.natAbs := by omega
      simp [takeTilt, clampInt, hhi, hlo, habs]

theorem tiltDue_eq (s : State) :
    tiltDue s = (s.tilt.fresh && s.tilt.arrival.any (fun t => s.params.tiltTmo < age s.now.ms t)) := by
  unfold tiltDue
  cases s.tilt.arrival <;> rfl

/-! ## The strike timeout -/

theorem strikeTimeoutDue_iff (c : BeamCode) (s : State) : strikeTimeoutDue c s = true ↔
    ((beam s c).state = .acquiring ∨ (beam s c).state = .tracking ∨ (beam s c).state = .established) ∧
    (beam s c).lastStrike.any (fun t => s.params.strikeTmo < age s.now.ms t) = true ∧
    (beam s c).fade.all (fun t => s.params.strikeTmo < age s.now.ms t) = true := by
  simp only [strikeTimeoutDue, Bool.and_eq_true, Bool.or_eq_true, decide_eq_true_eq, silent_iff, or_assoc]

/-- The loss of a beam with the ending of its test, in the statements' words (R25, R136; log 10). -/
theorem loseBeam_eq (c : BeamCode) (s : State) : loseBeam c s =
    let e := beam s c
    let lost := latch .beamLost (some c) s.chain.s (setBeam c
      ⟨e.seq, none, 0, e.lastStrike, .lost, 0, none, [], none⟩ s)
    if (testRun s).any (fun t => t.beam = c) then endTest .noBeam lost else lost := by
  have hl : lostEntry (beam s c) = ⟨(beam s c).seq, none, 0, (beam s c).lastStrike, .lost, 0, none, [], none⟩ := rfl
  have hr : ∀ t, testRun (latch .beamLost (some c) s.chain.s t) = testRun t := by simp [testRun]
  have hs : ∀ e, testRun (setBeam c e s) = testRun s := by simp [testRun]
  simp only [loseBeam, latchHere, hl, setBeam_chain, hr, hs]
  cases testRun s <;> simp

end Sys2Proof.Machine

namespace Sys2Proof.Scope

open Machine

/-- Settles O3: every value is the one `State.reset` is given. -/
theorem resetValues : Obligations.ResetValues := by
  refine ⟨by decide, fun c => ?_, rfl, rfl, rfl, rfl, rfl, rfl, rfl, rfl, rfl, rfl, rfl, rfl, rfl, rfl, rfl, rfl, rfl,
    fun l => ?_, rfl, rfl⟩
  · cases c <;> rfl
  · cases l <;> exact ⟨rfl, rfl⟩

/-- Settles O35: the clamp of `takeTilt` case by case, and the due condition of `tiltExpiry`. -/
theorem tiltRecord : Obligations.TiltRecord := by
  refine ⟨fun f s hi lo q rest hd hz => ?_, fun s => ?_⟩
  · have run : exec (.tilt f) s = .next (takeTiltFrame f s) := rfl
    rw [run, takeTiltFrame, hd, parseTilt_of_range hz]
    simp [takeTilt_eq, clsTilt]
  · have run : exec .tiltExpiry s = .next (tiltExpiry s) := rfl
    rw [run, tiltExpiry, tiltDue_eq]
    rfl

/-- Settles O36: the timeout is due exactly as stated, and the loss of the beam is `loseBeam_eq`. -/
theorem strikeTimeout : Obligations.StrikeTimeout := by
  intro c s
  have run : exec (.strikeTimeout c) s = .next (Machine.strikeTimeout c s) := rfl
  intro e due lost
  have hdue : strikeTimeoutDue c s = true ↔ due := strikeTimeoutDue_iff c s
  rw [run, Machine.strikeTimeout, loseBeam_eq]
  simp only [hdue, e, lost]

end Sys2Proof.Scope
end

section
/-! Frames of the wrong form (R3, R4, R12, R161, R162) and the measured depth (R17, R18, R21). -/

namespace Sys2Proof.Machine

/-! ## Frames of the wrong form -/

/-- A list of at least three bytes, by its first three. -/
theorem data_of_three {data : List Byte} (h : 3 ≤ data.length) :
    ∃ rest, data = data.getD 0 0 :: data.getD 1 0 :: data.getD 2 0 :: rest := by
  match data, h with
  | a :: b :: c :: rest, _ => exact ⟨rest, rfl⟩

theorem data_of_five {data : List Byte} (h : 5 ≤ data.length) : ∃ rest, data =
    data.getD 0 0 :: data.getD 1 0 :: data.getD 2 0 :: data.getD 3 0 :: data.getD 4 0 :: rest := by
  match data, h with
  | a :: b :: c :: d :: e :: rest, _ => exact ⟨rest, rfl⟩

theorem beamOfByte_eq_none {b : Byte} (h : 3 < b.toNat) : beamOfByte b = none := by
  obtain ⟨m, hm⟩ := Nat.exists_eq_add_of_le' h
  simp [beamOfByte, hm]

theorem strikeKind_eq_none {k hi lo : Byte} (h : 3 < k.toNat ∨ (k = 0 ∧ 255 < (int2 hi lo).natAbs)) :
    strikeKind k hi lo = none := by
  obtain h | ⟨rfl, h⟩ := h
  · obtain ⟨m, hm⟩ := Nat.exists_eq_add_of_le' h
    simp [strikeKind, hm]
  · have : ¬ (int2 hi lo).natAbs ≤ 255 := by omega
    simp [strikeKind, this]

/-- A STRIKE frame of the wrong form has no fields (R3, R162). -/
theorem parseStrike_eq_none {data : List Byte}
    (h : data.length < 5 ∨ 3 < (data.getD 0 0).toNat ∨ 3 < (data.getD 1 0).toNat ∨
      (data.getD 1 0 = 0 ∧ 255 < (int2 (data.getD 2 0) (data.getD 3 0)).natAbs)) : parseStrike data = none := by
  by_cases hlen : data.length < 5
  · match data, hlen with
    | [], _ | [_], _ | [_, _], _ | [_, _, _], _ | [_, _, _, _], _ => rfl
  · obtain ⟨rest, hd⟩ := data_of_five (not_lt.1 hlen)
    rw [hd, parseStrike]
    obtain h | h | h := h
    · exact absurd h hlen
    · rw [beamOfByte_eq_none h]
    · rw [strikeKind_eq_none h]
      cases beamOfByte (data.getD 0 0) <;> rfl

/-- A TILT frame of the wrong form holds no tilt (R12, R162). -/
theorem parseTilt_eq_none {data : List Byte}
    (h : data.length < 3 ∨ 9000 < (int2 (data.getD 0 0) (data.getD 1 0)).natAbs) : parseTilt data = none := by
  by_cases hlen : data.length < 3
  · match data, hlen with
    | [], _ | [_], _ | [_, _], _ => rfl
  · obtain ⟨rest, hd⟩ := data_of_three (not_lt.1 hlen)
    have : ¬ (int2 (data.getD 0 0) (data.getD 1 0)).natAbs ≤ 9000 := by omega
    rw [hd, parseTilt, if_neg this]

/-- A MANUAL_VALVE frame of the wrong form holds no demand (R162, R167). -/
theorem parseManual_eq_none {data : List Byte} (h : data.length < 3 ∨ 2 < (data.getD 0 0).toNat ∨
      10000 < word2 (data.getD 1 0) (data.getD 2 0)) : parseManual data = none := by
  by_cases hlen : data.length < 3
  · match data, hlen with
    | [], _ | [_], _ | [_, _], _ => rfl
  · obtain ⟨rest, hd⟩ := data_of_three (not_lt.1 hlen)
    rw [hd, parseManual, if_neg (by omega)]

/-! ## The measured depth -/

theorem measured_eq_none_of_noRef {s : State} (h : ∀ c, (beam s c).state ≠ .reference ∧ (beam s c).state ≠ .fading) :
    measured s = none := by
  have : reference s = none := reference_eq_none fun c => by
    have := h c
    simp [isRef, this]
  simp [measured, this]

theorem measured_eq_none_of_noTable {s : State} (h : s.store.tiltTable = none) : measured s = none := by
  unfold measured depthThrough
  rw [h]
  split <;> simp

theorem freshBeam_iff {e : Beam} {h : Height} {s : State} (hh : e.accepted = some h) :
    freshBeam e s = true ↔ age s.now.ms h.time ≤ s.params.strikeTmo := by
  simp [freshBeam, measuredAge, hh]

/-- The measured depth through the reference (R17). -/
theorem measured_eq {s : State} {c : BeamCode} {h : Height} {o : Int} {table : List Int}
    (href : reference s = some c) (hh : (beam s c).accepted = some h)
    (ho : (beam s c).offset = some o) (ht : s.store.tiltTable = some table) :
    measured s = some (h.b + o + s.params.mast + correction table s.tilt.theta, c) := by
  simp [measured, href, depthThrough, hh, ho, ht]

end Sys2Proof.Machine

namespace Sys2Proof.Scope

open Machine

/-- Settles O18: each wrong form leaves the frame without fields, so it is dropped before its forwarding. -/
theorem malformedFramesAreDropped : Obligations.MalformedFramesAreDropped := by
  refine fun f s => ⟨fun h => ?_, fun h => ?_, fun h => ?_, fun _ _ _ _ _ => rfl⟩
  · have run : exec (.strike f) s = .next (takeStrike f s) := rfl
    rw [run, takeStrike, parseStrike_eq_none h]
    rfl
  · have run : exec (.tilt f) s = .next (takeTiltFrame f s) := rfl
    rw [run, takeTiltFrame, parseTilt_eq_none h]
    rfl
  · have run : exec (.manualValve f) s = .next (takeManual f s) := rfl
    rw [run, takeManual, parseManual_eq_none h]
    rfl

/-- Settles O23: the reference of a sound table is its one entry in REFERENCE or FADING. -/
theorem measuredDepthThroughReference : Obligations.MeasuredDepthThroughReference := fun _ hs =>
  ⟨fun _ _ _ _ hst hh ho ht => ⟨measured_eq (reference_eq_some hs hst) hh ho ht, freshBeam_iff hh⟩, measured_eq_none_of_noRef,
    measured_eq_none_of_noTable⟩

end Sys2Proof.Scope
end

section
/-! The strikes (R3 to R11, R23, R24, R27, R30 to R32, R97 to R109, R136, R191). -/

namespace Sys2Proof.Machine

theorem strikeKind_edge {k hi lo : Byte} (h : k = 1 ∨ k = 2) :
    strikeKind k hi lo = some (if k = 1 then .edgeHigh else .edgeLow) := by
  obtain rfl | rfl := h <;> rfl

/-- The result of an EDGE strike, by its kind (R10). -/
def edgeResultOf (k : Byte) : StrikeResult := if k = 1 then .edgeHigh else .edgeLow

theorem edgeResultOf_cases (k : Byte) : edgeResultOf k = .edgeHigh ∨ edgeResultOf k = .edgeLow := by
  unfold edgeResultOf
  split <;> simp

/-- An EDGE strike's time taken into its entry (R10, R20). -/
def edgeTaken (c : BeamCode) (s : State) : State :=
  setBeam c { beam s c with lastStrike := some s.now.ms, fade := none } s

/-- A STRIKE frame whose handling by kind is known, as the outcome of its command (R3). -/
theorem exec_strike_of_handled {f : Arrival} {c : BeamCode} {k hi lo n : Byte} {rest : List Byte} {kind : StrikeKind}
    (hd : f.data = beamByte c :: k :: hi :: lo :: n :: rest) (hk : strikeKind k hi lo = some kind) {s w : State}
    {r : StrikeResult} (hw : handleKind c kind (strikeSeen f c n s) = (r, w)) :
    exec (.strike f) s = .next (handTestStrike c r (handReferenceStrike c r (beamTransition c r w))) := by
  have run : exec (.strike f) s = .next (takeStrike f s) := rfl
  rw [run, takeStrike_of_kind hd hk, hw]

/-- A SINGLE accepted or rebasing (R7, R8). -/
theorem exec_strike_accepted {f : Arrival} {c : BeamCode} {hi lo n : Byte} {rest : List Byte}
    (hd : f.data = beamByte c :: 0 :: hi :: lo :: n :: rest) (hp : (int2 hi lo).natAbs ≤ 255) {s w : State}
    {r : StrikeResult} (h : HeightAccepted f c n (roundDiv (int2 hi lo * s.params.pitch) 4) s r w) :
    exec (.strike f) s = .next (handTestStrike c r (handReferenceStrike c r (beamTransition c r w))) :=
  exec_strike_of_handled hd (strikeKind_single hp) (handleKind_accepted h)

/-- A rejected SINGLE as its entry keeps it, with no fade time unless FADING (R8, R20). -/
def rejectTaken (f : Arrival) (c : BeamCode) (n : Byte) (s : State) : State :=
  let v := jumpCounted c (strikeSeen f c n s)
  setBeam c { beam v c with
    rejects := (beam s c).rejects + 1, lastStrike := some s.now.ms
    fade := if (beam s c).state = .fading then (beam s c).fade else none } v

/-- A SINGLE rejected: neither the control computation nor the test sees it (R8, R97, R136). -/
theorem exec_strike_rejected {f : Arrival} {c : BeamCode} {hi lo n : Byte} {rest : List Byte}
    (hd : f.data = beamByte c :: 0 :: hi :: lo :: n :: rest) (hp : (int2 hi lo).natAbs ≤ 255) {s : State}
    (hfar : nearLast c (roundDiv (int2 hi lo * s.params.pitch) 4) s = false)
    (hr : (beam s c).rejects + 1 < s.params.jumpn) :
    exec (.strike f) s = .next (beamTransition c .jumpRejected (rejectTaken f c n s)) := by
  rw [exec_strike_of_handled hd (strikeKind_single hp) (handleKind_rejected hfar hr)]
  show Host.Outcome.next (handTestStrike c .jumpRejected (handReferenceStrike c .jumpRejected
    (beamTransition c .jumpRejected (rejectTaken f c n s)))) = _
  generalize beamTransition c .jumpRejected (rejectTaken f c n s) = x
  have href : handReferenceStrike c .jumpRejected x = x := by simp [handReferenceStrike, referenceStrike]
  have htest : handTestStrike c .jumpRejected x = x := by
    unfold handTestStrike
    cases x.test.phase <;> rfl
  rw [href, htest]

/-- An EDGE strike (R10). -/
theorem exec_strike_edge {f : Arrival} {c : BeamCode} {k hi lo n : Byte} {rest : List Byte}
    (hd : f.data = beamByte c :: k :: hi :: lo :: n :: rest) (hk : k = 1 ∨ k = 2) (s : State) :
    exec (.strike f) s = .next (handTestStrike c (edgeResultOf k) (handReferenceStrike c (edgeResultOf k)
      (beamTransition c (edgeResultOf k) (edgeTaken c (strikeSeen f c n s))))) := by
  refine exec_strike_of_handled hd (strikeKind_edge hk) ?_
  obtain rfl | rfl := hk <;> rfl

/-! ## The table's part of a strike -/

/-- ESTABLISHED and REFERENCE entries are moved by no strike. -/
theorem beamTransition_of_still {c : BeamCode} {s : State} (r : StrikeResult)
    (h : (beam s c).state = .established ∨ (beam s c).state = .reference) : beamTransition c r s = s := by
  obtain h | h := h <;> simp [beamTransition, h]

/-- A MULTI strike moves no entry (R10). -/
theorem beamTransition_multi (c : BeamCode) (s : State) : beamTransition c .multi s = s := by
  cases h : (beam s c).state <;> simp [beamTransition, h]

/-- A reference strike is computed for the entry in REFERENCE, in AUTO alone (R32, R97). -/
theorem handReferenceStrike_of_not {c : BeamCode} {s : State} (r : StrikeResult)
    (h : (beam s c).state ≠ .reference ∨ s.ctl.state ≠ .auto) : handReferenceStrike c r s = s := by
  obtain h | h := h <;> simp [handReferenceStrike, referenceStrike, h]

theorem handReferenceStrike_of_reference {c : BeamCode} {s : State} (r : StrikeResult)
    (h : (beam s c).state = .reference) : handReferenceStrike c r s = referenceStrike c r s := by
  simp [handReferenceStrike, h]

@[simp] theorem beam_edgeTaken (c d : BeamCode) (s : State) : beam (edgeTaken c s) d =
    if d = c then { beam s c with lastStrike := some s.now.ms, fade := none } else beam s d := by
  simp [edgeTaken]

/-! ## A MULTI strike -/

theorem handStrike_multi (c : BeamCode) (s : State) :
    handTestStrike c .multi (handReferenceStrike c .multi s) = s := by
  have href : handReferenceStrike c .multi s = s := by simp [handReferenceStrike, referenceStrike]
  rw [href]
  unfold handTestStrike
  cases s.test.phase <;> rfl

/-- How many sequence numbers of its beam a strike has missed (R5). -/
def missedBefore (c : BeamCode) (n : Byte) (s : State) : Nat :=
  ((beam s c).seq.map (fun q => (n - q - 1).toNat)).getD 0

/-- The sequence check, in the statements' words (R5). -/
theorem checkSequence_eq (c : BeamCode) (n : Byte) (s : State) : checkSequence c n s =
    setBeam c { beam s c with seq := some n } (if missedBefore c n s = 0 then s else
      latch .strikeGap (some c) s.chain.s { s with counters := { s.counters with
        strikeGaps := min 65535 (s.counters.strikeGaps + missedBefore c n s) } }) := by
  cases hq : (beam s c).seq with
  | none => simp [checkSequence, missedBefore, hq]
  | some q =>
    have hm : missedBefore c n s = (n - q - 1).toNat := by simp [missedBefore, hq]
    simp only [checkSequence, hq, hm, Nat.pos_iff_ne_zero]
    by_cases h0 : (n - q - 1).toNat = 0
    · rw [if_neg (not_not.2 h0), if_pos h0]
    · rw [if_pos h0, if_neg h0]
      simp only [beam_latchHere, beam_count]
      rfl

end Sys2Proof.Machine

namespace Sys2Proof.Scope

open Machine

/-- Settles O29: a MULTI strike passes the beam table, the control computation and the test untouched. -/
theorem multiStrikeIsRejected : Obligations.MultiStrikeIsRejected := by
  intro f s c hi lo n rest hd t missing u v w sum
  have hk : strikeKind 3 hi lo = some .multi := rfl
  have hmissing : missedBefore c n t = missing := by simp [missedBefore, missing, t]
  have hseen : strikeSeen f c n s = v := by
    show checkSequence c n t = v
    rw [checkSequence_eq, hmissing]
    simp [v, u, t]
  rw [exec_strike_of_handled hd hk (r := .multi) (w := countReject .multiRejects c v) (by rw [hseen]; rfl),
    beamTransition_multi, handStrike_multi]
  have hv : v.params = s.params ∧ v.chain = s.chain := by simp [← hseen]
  simp only [countReject, latchHere, rejectSum, hv, count_chain]
  rfl

end Sys2Proof.Scope

namespace Sys2Proof.Machine

/-! ## Strikes of an entry that stays -/

theorem state_rejectTaken (f : Arrival) (c : BeamCode) (n : Byte) (s : State) :
    (beam (rejectTaken f c n s) c).state = (beam s c).state := by
  simp [rejectTaken]

theorem state_of_accepted {f : Arrival} {c : BeamCode} {n : Byte} {b : Int} {s : State} {r : StrikeResult} {w : State}
    (h : HeightAccepted f c n b s r w) (d : BeamCode) : (beam w d).state = (beam s d).state := by
  rw [beam_of_accepted h]
  split <;> simp_all

/-- The time an EDGE strike sets is that of its frame (R10). -/
theorem edgeTaken_strikeSeen (f : Arrival) (c : BeamCode) (n : Byte) (s : State) :
    edgeTaken c (strikeSeen f c n s) =
      let u := strikeSeen f c n s
      setBeam c { beam u c with lastStrike := some s.now.ms, fade := none } u := by
  simp [edgeTaken]

theorem state_edgeTaken (f : Arrival) (c d : BeamCode) (n : Byte) (s : State) :
    (beam (edgeTaken c (strikeSeen f c n s)) d).state = (beam s d).state := by
  simp only [beam_edgeTaken, beam_strikeSeen]
  split <;> simp_all

/-- A strike of an entry that it does not move and that starts no computation goes to the test alone (R32, R97). -/
theorem handled_of_still {c : BeamCode} {s w : State} (r : StrikeResult) (hstate : (beam w c).state = (beam s c).state)
    (hctl : w.ctl = s.ctl)
    (h : (beam s c).state = .established ∨ ((beam s c).state = .reference ∧ s.ctl.state ≠ .auto)) :
    handReferenceStrike c r (beamTransition c r w) = w := by
  rw [beamTransition_of_still r (by rw [hstate]; tauto), handReferenceStrike_of_not r]
  rw [hstate, hctl]
  obtain h | h := h <;> simp [h]

end Sys2Proof.Machine

namespace Sys2Proof.Scope

open Machine

/-- Settles O30: the entries named are moved by none of these strikes, so only the filter and the test act. -/
theorem jumpFilter : Obligations.JumpFilter := by
  intro f s c k hi lo n rest hd u e b v still
  refine ⟨fun hk hp => ⟨fun hstill r w hw => ?_, fun hst hfar hr => ?_⟩, fun hk hst => ?_⟩
  · subst hk
    obtain ⟨-, -, -, -, -, -, hctl, -⟩ := frame_of_accepted hw
    rw [exec_strike_accepted hd hp hw, handled_of_still r (state_of_accepted hw c) hctl hstill]
  · subst hk
    have hmoves : beamTransition c .jumpRejected (rejectTaken f c n s) = rejectTaken f c n s := by
      have hs := state_rejectTaken f c n s
      obtain h | h | h := hst <;> simp [beamTransition, hs, e, h]
    have hfade : (beam s c).state ≠ .fading := by obtain h | h | h := hst <;> simp [e, h]
    rw [exec_strike_rejected hd hp hfar hr, hmoves]
    simp [rejectTaken, hfade, u, v, e]
  · have hctl : (edgeTaken c u).ctl = s.ctl := by simp [edgeTaken, u]
    have hstate : (beam (edgeTaken c u) c).state = e.state := state_edgeTaken f c c n s
    have hpass : handReferenceStrike c (edgeResultOf k) (beamTransition c (edgeResultOf k) (edgeTaken c u)) =
        edgeTaken c u := by
      obtain hstill | ht := hst
      · exact handled_of_still _ hstate hctl hstill
      · have hmoves : beamTransition c (edgeResultOf k) (edgeTaken c u) = edgeTaken c u := by
          obtain h | h := edgeResultOf_cases k <;> simp only [beamTransition, h, hstate, ht]
        rw [hmoves, handReferenceStrike_of_not _ (Or.inl (by rw [hstate, ht]; decide))]
    rw [exec_strike_edge hd hk]
    show Host.Outcome.next (handTestStrike c _ (handReferenceStrike c _ (beamTransition c _ (edgeTaken c u)))) = _
    rw [hpass, edgeTaken_strikeSeen]
    rfl

end Sys2Proof.Scope

namespace Sys2Proof.Machine

/-! ## Acquisition -/

/-- The reference depends on which entries are in REFERENCE or FADING alone (R21). -/
theorem reference_of_isRef {s t : State} (h : ∀ d, isRef (beam t d) = isRef (beam s d)) : reference t = reference s := by
  simp [reference, h]

theorem mapBeams_setBeam (g : Beam → Beam) (c : BeamCode) (e : Beam) (s : State) :
    mapBeams g (setBeam c e s) = setBeam c (g e) (mapBeams g s) := by
  cases c <;> rfl

theorem mapBeams_mapBeams (g h : Beam → Beam) (s : State) : mapBeams g (mapBeams h s) = mapBeams (fun e => g (h e)) s := rfl

/-- An entry as the choice of a first reference leaves it (R30, R31). -/
theorem windowless_dropEstablished (e : Beam) : { dropEstablished e with window := [] } =
    if e.state = .established then { e with state := .tracking, offset := none, window := [] }
    else { e with window := [] } := by
  unfold dropEstablished
  split <;> rfl

/-- The automatic choice of a first reference, of an entry in TRACKING (R30, R31; log 28). -/
theorem chooseFirst_eq {c : BeamCode} {x : State} (h : (beam x c).state = .tracking) : chooseFirst c x =
    if (reference x).isNone ∧ (x.run.isOpen = false ∨ x.run.benched = false) then
      setMemory 0 (setBeam c { beam x c with state := .reference, offset := some 0, window := [] }
        (mapBeams (fun e => if e.state = .established then
          { e with state := .tracking, offset := none, window := [] } else { e with window := [] }) x))
    else x := by
  have hc : dropEstablished (beam x c) = beam x c := by simp [dropEstablished, h]
  unfold chooseFirst
  split
  · simp only [referenceChanged, mapBeams_setBeam, mapBeams_mapBeams, beam_mapBeams, hc, windowless_dropEstablished]
  · rfl

/-- The entry that has reached TRACKING, with its event (R24). -/
def acquired (c : BeamCode) (s : State) : State :=
  latch .beamAcquired (some c) s.chain.s (setBeam c { beam s c with state := .tracking, good := 0 } s)

theorem state_acquired (c : BeamCode) (s : State) : (beam (acquired c s) c).state = .tracking := by
  simp [acquired]

/-- Before an entry in acquisition reaches TRACKING and after it, the same entry is the reference, or none (R21). -/
theorem reference_acquired {c : BeamCode} {s : State} (h : Unsighted (beam s c)) :
    reference (acquired c s) = reference s := by
  refine reference_of_isRef fun d => ?_
  by_cases hd : d = c
  · subst hd
    obtain h | h | h := h <;> simp [acquired, isRef, h]
  · simp [acquired, hd]

/-- A good strike counted (R24). -/
theorem countGood_eq (c : BeamCode) (s : State) : countGood c s =
    if (beam s c).good + 1 < s.params.acq then setBeam c { beam s c with good := (beam s c).good + 1 } s
    else chooseFirst c (acquired c s) := by
  unfold countGood
  by_cases h : s.params.acq ≤ (beam s c).good + 1
  · rw [if_neg (not_lt.2 h)]
    exact if_pos h
  · rw [if_pos (not_le.1 h)]
    exact if_neg h

/-- The good count that a good strike takes an entry to (R23, R24). -/
def goodAfter (e : Beam) : Nat := if e.state = .acquiring then e.good + 1 else 1

/-- A good strike of an entry in acquisition, or of one that begins it (R23, R24). -/
theorem beamTransition_of_unsighted {c : BeamCode} {r : StrikeResult} {s : State} {b : Int}
    (hr : r = .accepted b ∨ r = .rebased b) (h : Unsighted (beam s c)) : beamTransition c r s =
      if goodAfter (beam s c) < s.params.acq then
        setBeam c { beam s c with state := .acquiring, good := goodAfter (beam s c) } s
      else chooseFirst c (acquired c s) := by
  by_cases ha : (beam s c).state = .acquiring
  · have hcount : beamTransition c r s = countGood c s := by
      obtain rfl | rfl := hr <;> simp [beamTransition, ha]
    have hsame : { beam s c with state := .acquiring, good := (beam s c).good + 1 } =
        { beam s c with good := (beam s c).good + 1 } := by rw [← ha]
    rw [hcount, countGood_eq, goodAfter, if_pos ha, hsame]
  · have hbegin : beamTransition c r s = countGood c (setBeam c { beam s c with state := .acquiring, good := 0 } s) := by
      obtain h | h | h := h
      · obtain rfl | rfl := hr <;> simp [beamTransition, h]
      · obtain rfl | rfl := hr <;> simp [beamTransition, h]
      · exact absurd h ha
    rw [hbegin, countGood_eq, goodAfter, if_neg ha]
    simp [acquired]

end Sys2Proof.Machine

namespace Sys2Proof.Scope

open Machine

/-- Settles O31: the table's part of the strike is computed, and no entry it leaves starts a control computation. -/
theorem acquisitionOfBeam : Obligations.AcquisitionOfBeam := by
  refine ⟨?_, ?_⟩
  · intro f s c hi lo n rest hd hp hst hauto r w hw good x
    have hun : Unsighted (beam w c) := by rw [Unsighted, state_of_accepted hw]; exact hst
    obtain ⟨-, hparams, hchain, -, -, hrun, hctl, -⟩ := frame_of_accepted hw
    have hgood : goodAfter (beam w c) = good := by
      simp [goodAfter, good, beam_of_accepted hw]
    have hx : acquired c w = x := by simp [acquired, x, hchain]
    have href : reference x = reference s := by
      rw [← hx, reference_acquired hun]
      exact reference_states (state_of_accepted hw)
    rw [exec_strike_accepted hd hp hw, beamTransition_of_unsighted (result_of_accepted hw) hun, hgood, hparams, hx,
      chooseFirst_eq (by rw [← hx]; exact state_acquired c w), href]
    have hxrun : x.run = s.run := by simp [x, hrun]
    rw [hxrun]
    congr 2
    split
    · exact handReferenceStrike_of_not r (Or.inl (by simp))
    · split
      · rename_i hchosen
        refine handReferenceStrike_of_not r (Or.inr ?_)
        intro ha
        have ha : s.ctl.state = .auto := by simpa [x, hctl, setMemory] using ha
        have hsound := hauto ha
        obtain ⟨-, hclosed | hunbenched⟩ := hchosen
        · simp [hsound.isOpen (by simp [ha])] at hclosed
        · simp [hsound.ready (by simp [ha])] at hunbenched
      · exact handReferenceStrike_of_not r (Or.inl (by simp [x]))
  · intro f s c k hi lo n rest hd u e b edge
    have hstate : (beam (edgeTaken c u) c).state = e.state := state_edgeTaken f c c n s
    refine ⟨fun hk hst => ?_, fun hk hst => ?_, fun hk hp hst hfar hr => ?_⟩
    · have hbegin : beamTransition c (edgeResultOf k) (edgeTaken c u) =
          setBeam c { beam (edgeTaken c u) c with state := .acquiring, good := 0 } (edgeTaken c u) := by
        obtain hr | hr := edgeResultOf_cases k <;> obtain h | h := hst <;> simp only [beamTransition, hr, hstate, h]
      rw [exec_strike_edge hd hk]
      show Host.Outcome.next (handTestStrike c _ (handReferenceStrike c _ (beamTransition c _ (edgeTaken c u)))) = _
      rw [hbegin, handReferenceStrike_of_not _ (Or.inl (by simp)), edgeTaken_strikeSeen]
      simp [edge, edgeResultOf, u]
    · have hstays : beamTransition c (edgeResultOf k) (edgeTaken c u) = edgeTaken c u := by
        obtain hr | hr := edgeResultOf_cases k <;> simp only [beamTransition, hr, hstate, hst]
      rw [exec_strike_edge hd hk]
      show Host.Outcome.next (handTestStrike c _ (handReferenceStrike c _ (beamTransition c _ (edgeTaken c u)))) = _
      rw [hstays, handReferenceStrike_of_not _ (Or.inl (by rw [hstate, hst]; decide)), edgeTaken_strikeSeen]
      rfl
    · subst hk
      have hst' : (beam (rejectTaken f c n s) c).state = .acquiring := (state_rejectTaken f c n s).trans hst
      have hfade : (beam s c).state ≠ .fading := by simp [e] at hst; simp [hst]
      have hfails : beamTransition c .jumpRejected (rejectTaken f c n s) =
          setBeam c { beam (rejectTaken f c n s) c with good := 0 } (rejectTaken f c n s) := by
        simp only [beamTransition, hst']
      rw [exec_strike_rejected hd hp hfar hr, hfails]
      simp [rejectTaken, hfade, u, e]

end Sys2Proof.Scope

namespace Sys2Proof.Machine

/-! ## The control computation -/

/-- The writes that end a control computation in AUTO (R104, R107 to R109). -/
def controlWritten (raw : Int) (limit : Nat) (off : Bool) (s : State) : State :=
  let d := slewLimit raw s.ctl.memory s.params.slew
  writeTravel (cappedLimit limit (capAt s.store.active s.chain.s))
    (writeDepth (if d = 0 then .neutral else .demand (if 0 < d then .raise else .lower) d.natAbs)
      { s with ctl := { s.ctl with memory := d, offColumn := off } })

theorem demandValue_eq (d : Int) :
    demandValue d = if d = 0 then .neutral else .demand (if 0 < d then .raise else .lower) d.natAbs := by
  unfold demandValue
  split
  · rfl
  · split <;> rfl

theorem finishComputation_setOffColumn (raw : Int) (limit : Nat) (off : Bool) (s : State) :
    finishComputation raw limit (setOffColumn off s) = controlWritten raw limit off s := by
  simp only [finishComputation, demandValue_eq]
  rfl

/-- The depth error of a strike through the reference (R98, R99). -/
theorem depthError_eq {s : State} {c : BeamCode} {h : Height} {o target : Int} {table : List Int}
    (href : reference s = some c) (hh : (beam s c).accepted = some h) (ho : (beam s c).offset = some o)
    (ht : s.store.tiltTable = some table) (htarget : targetAt s.store.active s.chain.s = some target) :
    depthError s = some (h.b + o + s.params.mast + correction table s.tilt.theta - (s.run.dSet + target)) := by
  simp [depthError, designDepth, measured_eq href hh ho ht, htarget]

/-- An accepted or rebasing reference strike in AUTO (R97 to R109). -/
theorem referenceStrike_of_measured {c : BeamCode} {s : State} {r : StrikeResult} {b e : Int}
    (hr : r = .accepted b ∨ r = .rebased b) (ha : s.ctl.state = .auto) (he : depthError s = some e) :
    referenceStrike c r s = controlWritten (rawDemand e s.params) (errorLimit e s.params) false
      (noteTarget s.chain.s s) := by
  have hcomp : referenceStrike c r s = measuredComputation s := by
    obtain rfl | rfl := hr <;> simp [referenceStrike, ha]
  rw [hcomp, measuredComputation, he]
  exact finishComputation_setOffColumn _ _ _ _

/-- An EDGE strike of the reference in AUTO (R32, R107). -/
theorem referenceStrike_of_edge {c : BeamCode} {s : State} {k : Byte} (hk : k = 1 ∨ k = 2) (ha : s.ctl.state = .auto) :
    referenceStrike c (edgeResultOf k) s =
      controlWritten (if k = 1 then s.params.umax else -(s.params.umax : Int)) s.params.lMin true
        (latch .offColumn (some c) s.chain.s s) := by
  obtain rfl | rfl := hk
  · simp only [referenceStrike, ha, edgeResultOf, if_true]
    exact finishComputation_setOffColumn _ _ _ _
  · simp only [referenceStrike, ha, edgeResultOf, if_true]
    exact finishComputation_setOffColumn _ _ _ _

end Sys2Proof.Machine

namespace Sys2Proof.Scope

open Machine

/-- Settles O33: the strike moves no entry, and the depth error of the state it leaves is that of the statement. -/
theorem referenceStrikeInAuto : Obligations.ReferenceStrikeInAuto := by
  intro f s c k hi lo n rest o target table hd hs ha href ho ht htarget u cap finish b
  have hfinish (x : State) (raw : Int) (limit : Nat) (off : Bool) (hctl : x.ctl = s.ctl) (hparams : x.params = s.params)
      (hstore : x.store = s.store) (hchain : x.chain = s.chain) : controlWritten raw limit off x = finish x raw limit off := by
    simp only [controlWritten, finish, cap, hctl, hparams, hstore, hchain]
  refine ⟨fun hk hp r w hw => ?_, fun hk => ?_⟩
  · subst hk
    obtain ⟨-, hparams, hchain, htilt, hstore, hrun, hctl, -⟩ := frame_of_accepted hw
    have hstate : (beam w c).state = .reference := (state_of_accepted hw c).trans href
    have hrefw : reference w = some c := (reference_states (state_of_accepted hw)).trans (reference_eq_some hs (.inl href))
    have herror := depthError_eq (h := ⟨b, s.now.ms⟩) hrefw (by simp [beam_of_accepted hw, b])
      (by simpa [beam_of_accepted hw] using ho) (hstore ▸ ht) (by rw [hstore, hchain]; exact htarget)
    have hnote : noteTarget w.chain.s w =
        if targetSaturates s.store.active s.chain.s then latch .targetSaturated none s.chain.s w else w := by
      rw [noteTarget, hstore, hchain]
    rw [exec_strike_accepted hd hp hw, beamTransition_of_still r (.inr hstate),
      handReferenceStrike_of_reference r hstate,
      referenceStrike_of_measured (result_of_accepted hw) (by rw [hctl]; exact ha) herror, hnote]
    rw [hfinish]
    · simp [hparams, htilt, hrun]
    all_goals split <;> simp [hctl, hparams, hstore, hchain]
  · have hstate : (beam (edgeTaken c u) c).state = .reference := (state_edgeTaken f c c n s).trans href
    have hctl : (edgeTaken c u).ctl = s.ctl := by simp [edgeTaken, u]
    rw [exec_strike_edge hd hk]
    show Host.Outcome.next (handTestStrike c _ (handReferenceStrike c _ (beamTransition c _ (edgeTaken c u)))) = _
    rw [beamTransition_of_still _ (.inr hstate), handReferenceStrike_of_reference _ hstate,
      referenceStrike_of_edge hk (by rw [hctl]; exact ha), hfinish]
    · rw [edgeTaken_strikeSeen]
      simp [u, edgeResultOf]
    all_goals simp [edgeTaken, u]

end Sys2Proof.Scope

namespace Sys2Proof.Machine

/-! ## The return of a FADING reference -/

/-- A FADING entry that has its strike again (R27). -/
def returned (c : BeamCode) (s : State) : State := setBeam c { beam s c with state := .reference, fade := none } s

/-- The strikes that a FADING entry returns with (R27). -/
theorem beamTransition_of_fading {c : BeamCode} {s : State} {r : StrikeResult} (h : (beam s c).state = .fading)
    (hr : r ≠ .jumpRejected ∧ r ≠ .multi) : beamTransition c r s = reportRecovered (returned c s) := by
  obtain ⟨hj, hm⟩ := hr
  cases r
  case jumpRejected => exact absurd rfl hj
  case multi => exact absurd rfl hm
  all_goals simp [beamTransition, h, returned]

theorem referenceStrike_of_not_auto {c : BeamCode} {s : State} (r : StrikeResult) (h : s.ctl.state ≠ .auto) :
    referenceStrike c r s = s := by
  simp [referenceStrike, h]

/-- The strike that a FADING entry returns with is one of the reference, in AUTO again if the state is HOLD
    (R27, R85, R97, R168). -/
theorem handReferenceStrike_of_fading {c : BeamCode} {s : State} {r : StrikeResult} (h : (beam s c).state = .fading)
    (hr : r ≠ .jumpRejected ∧ r ≠ .multi) : handReferenceStrike c r (beamTransition c r s) =
      if s.ctl.state = .hold then referenceStrike c r (enterAuto (returned c s))
      else if s.ctl.state = .auto then referenceStrike c r (returned c s) else returned c s := by
  have hback : (beam (returned c s) c).state = .reference := by simp [returned]
  have hctl : (returned c s).ctl = s.ctl := by simp [returned]
  rw [beamTransition_of_fading h hr, reportRecovered, hctl]
  by_cases hhold : s.ctl.state = .hold
  · rw [if_pos hhold, if_pos hhold]
    exact handReferenceStrike_of_reference r hback
  · rw [if_neg hhold, if_neg hhold, handReferenceStrike_of_reference r hback]
    split
    · rfl
    · exact referenceStrike_of_not_auto r (by rwa [hctl])

end Sys2Proof.Machine

namespace Sys2Proof.Scope

open Machine

/-- Settles O34: the table makes the entry the reference, so its strike is one of the reference; a rejected one is kept. -/
theorem fadingReferenceReturns : Obligations.FadingReferenceReturns := by
  intro f s c k hi lo n rest hd hst u b back auto handed
  refine ⟨fun hk hp r w hw => ?_, fun hk => ?_, fun hk hp hfar hr => ?_⟩
  · subst hk
    obtain ⟨-, -, -, -, -, -, hctl, -⟩ := frame_of_accepted hw
    have hback : r ≠ .jumpRejected ∧ r ≠ .multi := by
      obtain rfl | rfl := result_of_accepted hw <;> simp
    rw [exec_strike_accepted hd hp hw,
      handReferenceStrike_of_fading ((state_of_accepted hw c).trans hst) hback, hctl]
    rfl
  · have hback : edgeResultOf k ≠ .jumpRejected ∧ edgeResultOf k ≠ .multi := by
      obtain h | h := edgeResultOf_cases k <;> simp [h]
    have hctl : (edgeTaken c u).ctl = s.ctl := by simp [edgeTaken, u]
    have hsame : returned c (edgeTaken c u) = back (setBeam c { beam u c with lastStrike := some s.now.ms } u) := by
      rw [edgeTaken_strikeSeen]
      simp [returned, back, u]
    rw [exec_strike_edge hd hk]
    show Host.Outcome.next (handTestStrike c _ (handReferenceStrike c _ (beamTransition c _ (edgeTaken c u)))) = _
    rw [handReferenceStrike_of_fading ((state_edgeTaken f c c n s).trans hst) hback, hctl, hsame]
    rfl
  · subst hk
    have hstays : beamTransition c .jumpRejected (rejectTaken f c n s) = rejectTaken f c n s := by
      simp only [beamTransition, (state_rejectTaken f c n s).trans hst]
    rw [exec_strike_rejected hd hp hfar hr, hstays]
    simp [rejectTaken, hst, u]

end Sys2Proof.Scope
end

section
/-! The parameter write (R13, R29, R35, R62, R106, R115, R121, R122, R135, R136, R177, R178). -/

namespace Sys2Proof.Machine

/-! ## What a stored value changes -/

/-- The values of a parameter set, in the order of their identifiers (R199). -/
def paramValues (p : Params) : List Nat :=
  [p.pitch, p.mast, p.jump, p.jumpn, p.tiltTmo, p.strikeTmo, p.acq, p.pair, p.ofsN, p.ofsTol, p.autoHandover,
    p.holdDist, p.odoScale, odoEdgeSelCode p.odoEdge, dirPolarityCode p.dirPol, p.odoFilt, p.dirFilt, p.digFilt,
    p.stopFilt, p.window, p.gain, p.umin, p.umax, p.slew, p.dwell, p.eSlow, p.kTravel, p.lMin, p.lHold, p.tick,
    tickSourceCode p.tickSrc, p.syncTmo, updateModeCode p.modeDepth, updateModeCode p.modeTravel, p.decay, p.traceStep,
    p.traceHigh, gateSourceCode p.traceGate, streamModeCode p.stream, p.streamK, p.rejectThresh,
    actionCode p.fwdDefault, p.vtStart, p.vtStep, p.vtPeriod, p.vtMove, p.vtMax, p.vtNostrike]

theorem readParam_zero (p : Params) : readParam 0 p = none := rfl

theorem readParam_succ (i : Nat) (p : Params) : readParam (i + 1) p = (paramValues p)[i]? := by
  by_cases h : i < 48
  · interval_cases i <;> rfl
  · rw [List.getElem?_eq_none (by simpa [paramValues] using h)]
    unfold readParam
    split
    case h_49 => rfl
    all_goals omega

theorem paramKind_eq_none {i : Nat} (h : 48 ≤ i) : paramKind (i + 1) = none := by
  unfold paramKind
  split
  case h_49 => rfl
  all_goals omega

theorem lt_of_paramKind {i : Nat} {kind : ParamKind} (h : paramKind (i + 1) = some kind) : i < 48 := by
  by_contra hi
  simp [paramKind_eq_none (not_lt.1 hi)] at h

/-- The values that a parameter takes (R199). -/
def Storable (n w : Nat) : Prop :=
  (∃ lo hi, paramKind n = some (.numeric lo hi)) ∨ ∃ k, paramKind n = some (.enumerated k) ∧ w < k

theorem paramValues_storeParam {i w : Nat} (h : Storable (i + 1) w) (p : Params) :
    paramValues (storeParam (i + 1) w p) = (paramValues p).set i w := by
  obtain ⟨lo, hi, hk⟩ | ⟨k, hk, hw⟩ := h
  · have hi := lt_of_paramKind hk
    interval_cases i <;> cases hk <;> rfl
  · have hi := lt_of_paramKind hk
    interval_cases i <;> cases hk <;> interval_cases w <;> rfl

theorem lt_of_storable {i w : Nat} (h : Storable (i + 1) w) : i < 48 := by
  obtain ⟨lo, hi, hk⟩ | ⟨k, hk, -⟩ := h
  · exact lt_of_paramKind hk
  · exact lt_of_paramKind hk

/-- One value is stored, and every other parameter keeps its own (R177). -/
theorem readParam_storeParam {n w : Nat} (h : Storable n w) (j : Nat) (p : Params) :
    readParam j (storeParam n w p) = if j = n then some w else readParam j p := by
  cases n with
  | zero => simp [Storable, paramKind] at h
  | succ i =>
    have hi : i < (paramValues p).length := lt_of_storable h
    cases j with
    | zero => simp [readParam_zero]
    | succ j =>
      rw [readParam_succ, readParam_succ, paramValues_storeParam h, List.getElem?_set]
      by_cases hj : i = j
      · subst hj
        simp [hi]
      · simp [hj, Ne.symm hj]

/-! ## The effects at the write, in the statements' words -/

theorem judgeTilt_eq (u : State) : judgeTilt u = match u.tilt.arrival with
    | none => u
    | some t => if age u.now.ms t ≤ u.params.tiltTmo then { u with tilt := { u.tilt with fresh := true } }
      else if u.tilt.fresh = true then latch .tiltStale none u.chain.s { u with tilt := { u.tilt with fresh := false } }
      else u := by
  unfold judgeTilt
  cases ha : u.tilt.arrival with
  | none => rfl
  | some t =>
    by_cases hold : u.params.tiltTmo < age u.now.ms t
    · have hdue : tiltDue u = u.tilt.fresh := by simp [tiltDue, ha, hold]
      simp only [if_pos hold, if_neg (not_le.2 hold), tiltExpiry, hdue]
      rfl
    · simp only [if_neg hold, if_pos (not_lt.1 hold)]

/-- The timeouts that a write of P_STRIKE_TMO takes (R29; log 27). -/
theorem expireAll_left (u : State) : expireAll u =
    let a := left (.strikeTimeout .b3) (left (.strikeTimeout .b2) (left (.strikeTimeout .b1) (left (.strikeTimeout .b0) u)))
    if (reference a).any (fun c => (beam a c).state = .reference) then left .referenceTimeout a
    else left .fadingTimeout a := by
  show expireAll u = if (reference (expireBeams u)).any (fun c => (beam (expireBeams u) c).state = .reference)
    then referenceTimeout (expireBeams u) else fadingTimeout (expireBeams u)
  rw [expireAll_eq]
  generalize expireBeams u = a
  cases hc : reference a with
  | none => simp [refTimeoutDue, hc]
  | some c =>
    by_cases hst : (beam a c).state = .reference
    · by_cases hdue : refTimeoutDue .reference a
      · simp [hdue, hst]
      · have href : referenceTimeout a = a := by simp [referenceTimeout, hc, hdue]
        have hfade : fadingTimeout a = a := by simp [fadingTimeout, refTimeoutDue, hc, hst]
        simp [hdue, href, hfade]
    · simp [refTimeoutDue, hc, hst]

theorem filterExpiry_stop_left (u : State) : filterExpiry .stop u =
    if u.lines.stop.active = true then left .stopRelease u else left .stopAcceptedActive u := by
  have hrelease : left .stopRelease u = if u.lines.stop.active then filterExpiry .stop u else u := rfl
  have haccept : left .stopAcceptedActive u = if u.lines.stop.active then u else filterExpiry .stop u := rfl
  rw [hrelease, haccept]
  cases u.lines.stop.active <;> simp

theorem clampInt_eq {lo hi : Int} (h : lo ≤ hi) (v : Int) : clampInt lo hi v = max lo (min v hi) := by
  unfold clampInt
  omega

theorem clampDemands_eq (u : State) : clampDemands u = { u with
    ctl := { u.ctl with memory := max (-(u.params.umax : Int)) (min u.ctl.memory u.params.umax) }
    depth := { u.depth with
      waiting := u.depth.waiting.map (clampDepthValue u.params.umax)
      held := clampDepthValue u.params.umax u.depth.held } } := by
  simp only [clampDemands, clampInt_eq (show -(u.params.umax : Int) ≤ u.params.umax by omega)]

theorem tickEffect_eq (u : State) : tickEffect u =
    if u.tick.mode = .syncFrames then u else { u with tick := { u.tick with
      nextTick := if age (u.tick.lastTick + BitVec.ofNat 32 u.params.tick) u.tick.lastTick ≤ age u.now.ms u.tick.lastTick
        then u.now.ms else u.tick.lastTick + BitVec.ofNat 32 u.params.tick } } := by
  have hreached (since due now : Ms) : reached since due now = true ↔ age due since ≤ age now since :=
    decide_eq_true_iff
  simp only [tickEffect, later, hreached]

theorem tickSourceEffect_eq (old : TickSource) (u : State) : tickSourceEffect old u =
    if old = u.params.tickSrc then u
    else if u.params.tickSrc = .syncFrames then
      { u with tick := { u.tick with mode := .syncFrames, syncSince := u.now.ms } }
    else { u with tick := { u.tick with
      mode := .internalTicks, nextTick := u.now.ms + BitVec.ofNat 32 u.params.tick, owed := false } } := by
  unfold tickSourceEffect
  cases old <;> cases u.params.tickSrc <;> rfl

theorem depthModeEffect_eq (old : UpdateMode) (u : State) : depthModeEffect old u =
    if old = .synchronous ∧ u.params.modeDepth = .immediate ∧ u.depth.fresh = true
    then (if u.ctl.state = .standby ∨ u.ctl.state = .manual then
        { u with depth := { u.depth with waiting := none, fresh := false } }
      else emitDepth { u with depth := { u.depth with
        held := u.depth.waiting.getD u.depth.held, waiting := none, fresh := false } })
    else u := by
  simp [depthModeEffect, silenced, takeDepth]

theorem travelModeEffect_eq (old : UpdateMode) (u : State) : travelModeEffect old u =
    if old = .synchronous ∧ u.params.modeTravel = .immediate ∧ u.travel.fresh = true
    then travelSent (u.travel.waiting.getD u.travel.held)
      { u with travel := { u.travel with waiting := none, fresh := false } }
    else u := by
  unfold travelModeEffect
  rw [takeTravel, emitTravel_eq]
  rfl

/-- The effect of a write, as a choice by its identifier. -/
theorem paramEffect_eq_ite (n : Nat) (old : Params) (u : State) : paramEffect n old u =
    if n = 5 then judgeTilt u else if n = 6 then expireAll u
    else if n = 9 then mapBeams (fun e => { e with window := [] }) u
    else if n = 16 then filterExpiry .odo u else if n = 17 then filterExpiry .dir u
    else if n = 18 then filterExpiry .dig u else if n = 19 then filterExpiry .stop u
    else if n = 23 then clampDemands u else if n = 30 then tickEffect u
    else if n = 31 then tickSourceEffect old.tickSrc u else if n = 32 then syncTimeout u
    else if n = 33 then depthModeEffect old.modeDepth u else if n = 34 then travelModeEffect old.modeTravel u
    else if n = 36 then { u with chain := { u.chain with n := u.chain.s / u.params.traceStep } }
    else if n = 39 then burst u else if n = 47 then checkMax u else if n = 48 then noBeamTimeout u else u := by
  unfold paramEffect
  split
  case h_18 h5 h6 h9 h16 h17 h18 h19 h23 h30 h31 h32 h33 h34 h36 h39 h47 h48 =>
    rw [if_neg h5, if_neg h6, if_neg h9, if_neg h16, if_neg h17, if_neg h18, if_neg h19, if_neg h23, if_neg h30,
      if_neg h31, if_neg h32, if_neg h33, if_neg h34, if_neg h36, if_neg h39, if_neg h47, if_neg h48]
  all_goals rfl

/-! ## The checks of a write -/

theorem runFixed_iff (n : Nat) : runFixed n = true ↔ n ∈ [1, 2, 13, 36] := by
  simp [runFixed, or_assoc]

theorem writeParam_unknown {id : Byte} {s : State} (h : paramKind id.toNat = none) (v : Int) :
    writeParam id v s = refuse .range s := by
  simp [writeParam, h]

/-- The parameters fixed in an open run are numeric ones. -/
theorem numeric_of_fixed {n : Nat} (h : runFixed n = true) : ∃ lo hi, paramKind n = some (.numeric lo hi) := by
  rw [runFixed_iff] at h
  simp only [List.mem_cons, List.not_mem_nil, or_false] at h
  obtain rfl | rfl | rfl | rfl := h <;> exact ⟨_, _, rfl⟩

theorem writeParam_fixed {id : Byte} {s : State} (h : runFixed id.toNat = true) (hr : s.run.isOpen = true) (v : Int) :
    writeParam id v s = refuse .state s := by
  obtain ⟨lo, hi, hk⟩ := numeric_of_fixed h
  simp [writeParam, hk, h, hr]

theorem writeParam_undefined {id : Byte} {s : State} {k : Nat} {v : Int} (hk : paramKind id.toNat = some (.enumerated k))
    (hv : v < 0 ∨ (k : Int) ≤ v) : writeParam id v s = refuse .range s := by
  have hf : ¬ (runFixed id.toNat = true ∧ s.run.isOpen = true) := fun ⟨hf, _⟩ => by
    obtain ⟨lo, hi, hn⟩ := numeric_of_fixed hf
    simp [hk] at hn
  have hrange : ¬ (0 ≤ v ∧ v < k) := by omega
  simp only [writeParam, hk, hf, hrange, if_false]

/-- The value that a write stores (R177, R178). -/
def Stores (n w : Nat) (v : Int) (p : Params) : Prop :=
  (∃ k : Nat, paramKind n = some (.enumerated k) ∧ v < k ∧ (w : Int) = v) ∨
  (∃ lo hi : Nat, paramKind n = some (.numeric lo hi) ∧
    let near : Int := max (lo : Int) (min v hi)
    (w : Int) = if n = 22 then min near p.umax else if n = 23 then max near p.umin else near)

theorem storable_of_stores {n w : Nat} {v : Int} {p : Params} (h : Stores n w v p) : Storable n w := by
  obtain ⟨k, hk, hv, hw⟩ | ⟨lo, hi, hk, -⟩ := h
  · exact .inr ⟨k, hk, by omega⟩
  · exact .inl ⟨lo, hi, hk⟩

theorem range_of_numeric {n lo hi : Nat} (h : paramKind n = some (.numeric lo hi)) : lo ≤ hi := by
  cases n with
  | zero => cases h
  | succ i =>
    have hi := lt_of_paramKind h
    interval_cases i <;> cases h <;> decide

theorem adjustNumeric_eq {n lo hi w : Nat} {v : Int} {p : Params} (h : lo ≤ hi)
    (hw : (w : Int) = let near : Int := max (lo : Int) (min v hi)
      if n = 22 then min near p.umax else if n = 23 then max near p.umin else near) : adjustNumeric n lo hi v p = w := by
  have hnear : ((clampInt lo hi v).toNat : Int) = max (lo : Int) (min v hi) := by
    rw [clampInt_eq (by omega)]
    omega
  simp only [← hnear] at hw
  unfold adjustNumeric
  simp only
  split_ifs at hw ⊢ <;> omega

theorem writeParam_stores {id : Byte} {s : State} {w : Nat} {v : Int}
    (hf : ¬ (runFixed id.toNat = true ∧ s.run.isOpen = true)) (h : Stores id.toNat w v s.params) :
    writeParam id v s = ⟨if (w : Int) = v then .ok else .clamped, id :: signed4 w, carryWrite id.toNat w s⟩ := by
  obtain ⟨k, hk, hv, hw⟩ | ⟨lo, hi, hk, hw⟩ := h
  · subst hw
    have hrange : 0 ≤ (w : Int) ∧ (w : Int) < k := ⟨by omega, hv⟩
    simp only [writeParam, hk, hf, hrange, Int.toNat_natCast, and_self, if_true, if_false]
    rfl
  · simp only [writeParam, hk, hf, if_false, adjustNumeric_eq (range_of_numeric hk) hw]
    rfl

end Sys2Proof.Machine

namespace Sys2Proof.Scope

open Machine

/-- Settles O52: the write is decided by the parameter's kind, and each effect is that of its identifier. -/
theorem parameterWrite : Obligations.ParameterWrite := by
  intro r s id b0 b1 b2 b3 hbody n v sends fixed judged timedOut capped effect
  have run : exec (.paramWrite r) s = .next (answerRequest codeParamWrite 5 r paramWrite s) := rfl
  have hsends {act : State → Answer} (h : ∀ t, SameButQueues s t → writeParam id v t = act t) : sends act :=
    run.trans ((next_answerRequest 5 hbody rfl).trans (answered_ext h))
  refine ⟨fun hk => ?_, fun hf => ?_, fun k hk hv => ?_, fun w hf hw => ?_⟩
  · exact hsends fun t _ => writeParam_unknown hk v
  · obtain ⟨hn, hrun⟩ := hf
    refine hsends fun t ⟨_, _, _, _, _, _, _, _, ht, _⟩ => ?_
    exact writeParam_fixed ((runFixed_iff n).2 hn) (ht ▸ hrun) v
  · exact hsends fun t _ => writeParam_undefined hk hv
  · have hstores : Stores n w v s.params := hw
    refine ⟨storeParam n w s.params, fun j => readParam_storeParam (storable_of_stores hstores) j _, ?_⟩
    refine hsends fun t ⟨_, _, hparams, _, _, _, _, _, hrun, _⟩ => ?_
    have heffect (u : State) : paramEffect n s.params u = effect u := by
      have hjudged : judgeTilt u = judged u := judgeTilt_eq u
      have htimedOut : expireAll u = timedOut u := expireAll_left u
      have hcapped : checkMax u = capped u := by
        simp only [checkMax, capped]
        cases u.test.phase <;> rfl
      rw [paramEffect_eq_ite, hjudged, htimedOut, hcapped, filterExpiry_stop_left, clampDemands_eq,
        tickEffect_eq, tickSourceEffect_eq, depthModeEffect_eq, travelModeEffect_eq]
      rfl
    have hfree : ¬ (runFixed id.toNat = true ∧ t.run.isOpen = true) := by
      rw [runFixed_iff, hrun]
      exact hf
    rw [writeParam_stores hfree (hparams ▸ hstores), carryWrite, hparams]
    exact congrArg _ (heffect _)

end Sys2Proof.Scope
end

section
/-! The loading of the tables (R15, R41, R44 to R48, R52, R124, R179 to R182). -/

namespace Sys2Proof.Machine

/-! ## The begin and the cancel of a session -/

theorem kindOfByte_kindByte (k : TableKind) : kindOfByte (kindByte k) = some k := by
  cases k <;> rfl

theorem kindOfByte_unknown {b : Byte} (h : 3 < b.toNat) : kindOfByte b = none := by
  unfold kindOfByte
  split
  case h_5 => rfl
  all_goals omega

theorem loadBegin_unknown {b : Byte} (h : 3 < b.toNat) (s : State) : loadBegin [b] s = refuse .range s := by
  simp [loadBegin, kindOfByte_unknown h]

theorem loadCancel_unknown {b : Byte} (h : 3 < b.toNat) (s : State) : loadCancel [b] s = refuse .range s := by
  simp [loadCancel, kindOfByte_unknown h]

theorem loadCancel_kind (k : TableKind) (s : State) : loadCancel [kindByte k] s = cancelKind k s := by
  simp [loadCancel, kindOfByte_kindByte]

theorem openSession_eq (k : TableKind) (p : ProfileStore) : openSession k p =
    if k = .profile then { p with staging := ⟨[], 0, []⟩, session := some ⟨k, 0⟩ }
    else { p with shared := [], session := some ⟨k, 0⟩ } := by
  cases k <;> rfl

theorem loadBegin_busy {k : TableKind} {s : State}
    (h : s.store.session.isSome = true ∨ (k = .profile ∧ s.store.takeover.isSome = true)) :
    loadBegin [kindByte k] s = refuse .busy s := by
  simp only [loadBegin, List.getD_cons_zero, kindOfByte_kindByte]
  split
  · rfl
  · rw [if_pos (by tauto)]

theorem loadBegin_opens {k : TableKind} {s : State} (hs : s.store.session = none)
    (ht : k = .profile → s.store.takeover = none) :
    loadBegin [kindByte k] s = ⟨.ok, [kindByte k, 0, 0], { s with store :=
      if k = .profile then { s.store with staging := ⟨[], 0, []⟩, session := some ⟨k, 0⟩ }
      else { s.store with shared := [], session := some ⟨k, 0⟩ } }⟩ := by
  have hfree : ¬ (k = .profile ∧ s.store.takeover.isSome = true) := fun ⟨hk, h⟩ => by simp [ht hk] at h
  simp only [loadBegin, List.getD_cons_zero, kindOfByte_kindByte, hs, Option.isSome_none, Bool.false_eq_true, hfree,
    if_false, ← openSession_eq]
  rfl

theorem loadCancel_busy {s : State} (ht : s.store.takeover.isSome = true) (hs : s.store.session.isSome = true) :
    loadCancel [kindByte .profile] s = refuse .busy s := by
  simp [loadCancel_kind, cancelKind, ht, hs]

/-- The withdrawal of a pending takeover (R45, R182; log 32). -/
theorem loadCancel_reopens {s : State} (ht : s.store.takeover.isSome = true) (hs : s.store.session = none) :
    loadCancel [kindByte .profile] s = ⟨.ok, [kindByte .profile, 1] ++ bytes2 s.store.staging.entries.length,
      { s with store := { s.store with
        takeover := none, session := some ⟨.profile, s.store.staging.entries.length⟩ } }⟩ := by
  rw [loadCancel_kind, cancelKind, if_pos ⟨rfl, ht⟩, if_neg (by simp [hs])]
  rfl

theorem cancelKind_of_notPending {k : TableKind} {s : State} (h : k ≠ .profile ∨ s.store.takeover = none) :
    cancelKind k s = if sessionKind s = some k then
      done (cancelBody k none) (setStore { s.store with session := none } s) else refuse .sequence s := by
  refine if_neg ?_
  obtain h | h := h <;> simp [h]

theorem loadCancel_closes {k : TableKind} {p : Nat} {s : State} (h : k ≠ .profile ∨ s.store.takeover = none)
    (hs : s.store.session = some ⟨k, p⟩) : loadCancel [kindByte k] s =
      ⟨.ok, [kindByte k, 0, 0, 0], { s with store := { s.store with session := none } }⟩ := by
  rw [loadCancel_kind, cancelKind_of_notPending h, if_pos (by simp [sessionKind, hs])]
  rfl

theorem loadCancel_sequence {k : TableKind} {s : State} (h : k ≠ .profile ∨ s.store.takeover = none)
    (hs : ∀ p, s.store.session ≠ some ⟨k, p⟩) : loadCancel [kindByte k] s = refuse .sequence s := by
  have hother : sessionKind s ≠ some k := by
    intro hk
    obtain ⟨⟨k', p⟩, hsession, rfl⟩ := Option.map_eq_some_iff.1 hk
    exact hs p hsession
  rw [loadCancel_kind, cancelKind_of_notPending h, if_neg hother]

/-! ## The entries of a session -/

theorem loadEntry_full {k : TableKind} {p : Nat} (h : capacity k ≤ p) (body : List Byte) (s : State) :
    loadEntry ⟨k, p⟩ body s = refuse .range s := by
  simp [loadEntry, h]

theorem loadEntry_outOfRange {k : TableKind} {p : Nat} {body : List Byte} {s : State}
    (h : stageEntry k body s.store = none) : loadEntry ⟨k, p⟩ body s = refuse .range s := by
  simp [loadEntry, h]

theorem loadEntry_staged {k : TableKind} {p : Nat} {body : List Byte} {s : State} {store : ProfileStore}
    (hp : p < capacity k) (h : stageEntry k body s.store = some store) :
    loadEntry ⟨k, p⟩ body s =
      ⟨.ok, bytes2 (p + 1), { s with store := { store with session := some ⟨k, p + 1⟩ } }⟩ := by
  simp only [loadEntry, h, if_neg (not_le.2 hp)]
  rfl

/-- The profile entry that a body of 11 bytes states (R41, R180). -/
def statedEntry (body : List Byte) : ProfileEntry :=
  let at_ (i : Nat) : Byte := body.getD i 0
  ⟨word4 (at_ 1) (at_ 2) (at_ 3) (at_ 4), int2 (at_ 5) (at_ 6),
    if (at_ 0).getLsbD 0 then some (int2 (at_ 7) (at_ 8)) else none,
    if (at_ 0).getLsbD 1 then some (word2 (at_ 9) (at_ 10)) else none⟩

theorem parseProfileEntry_eq {body : List Byte} (h : body.length = 11) :
    parseProfileEntry body = some (statedEntry body) :=
  match body, h with
  | [_, _, _, _, _, _, _, _, _, _, _], _ => rfl

theorem parseTiltEntry_eq {body : List Byte} (h : body.length = 2) : parseTiltEntry body =
    if (int2 (body.getD 0 0) (body.getD 1 0)).natAbs ≤ 2000 then some (.tilt (int2 (body.getD 0 0) (body.getD 1 0)))
    else none :=
  match body, h with
  | [_, _], _ => rfl

/-- The map point that a body of 4 bytes states (R124, R180). -/
def statedPoint (body : List Byte) : MapPoint :=
  ⟨word2 (body.getD 0 0) (body.getD 1 0), word2 (body.getD 2 0) (body.getD 3 0)⟩

theorem parsePoint_eq {body : List Byte} (h : body.length = 4) : parsePoint body =
    if (statedPoint body).d ≤ 10000 ∧ 1 ≤ (statedPoint body).i ∧ (statedPoint body).i ≤ 2500
    then some (.point (statedPoint body)) else none :=
  match body, h with
  | [_, _, _, _], _ => rfl

theorem profileEntryOk_iff (e : ProfileEntry) : profileEntryOk e = true ↔
    e.start ≤ 5000000 ∧ e.grade.natAbs ≤ 5000 ∧ (∀ d, e.step = some d → d.natAbs ≤ 5000) ∧
      (∀ c, e.cap = some c → c ≤ 10000) := by
  show profileEntryOk e = true ↔ e.start ≤ chainageMax ∧ _
  unfold profileEntryOk
  cases e.step <;> cases e.cap <;> simp [and_assoc]

theorem stageEntry_profile {body : List Byte} (h : body.length = 11) (p : ProfileStore) : stageEntry .profile body p =
    if profileEntryOk (statedEntry body) then
      some { p with staging := { p.staging with entries := p.staging.entries ++ [statedEntry body] } } else none := by
  simp only [stageEntry, parseProfileEntry_eq h]

theorem stageEntry_tilt {body : List Byte} (h : body.length = 2) (p : ProfileStore) : stageEntry .tilt body p =
    if (int2 (body.getD 0 0) (body.getD 1 0)).natAbs ≤ 2000 then
      some { p with shared := p.shared ++ [.tilt (int2 (body.getD 0 0) (body.getD 1 0))] } else none := by
  rw [stageEntry, parseTiltEntry_eq h]
  split <;> rfl

theorem stageEntry_point {k : TableKind} (hk : k = .valveRaise ∨ k = .valveLower) {body : List Byte} (h : body.length = 4)
    (p : ProfileStore) : stageEntry k body p =
      if (statedPoint body).d ≤ 10000 ∧ 1 ≤ (statedPoint body).i ∧ (statedPoint body).i ≤ 2500 then
        some { p with shared := p.shared ++ [.point (statedPoint body)] } else none := by
  have hpoint : stageEntry k body p = (parsePoint body).map fun e => { p with shared := p.shared ++ [e] } := by
    obtain rfl | rfl := hk <;> rfl
  rw [hpoint, parsePoint_eq h]
  split <;> rfl

end Sys2Proof.Machine

namespace Sys2Proof.Scope

open Machine

/-- Settles O53: each request is answered by the case of its kind and of the session. -/
theorem loadSession : Obligations.LoadSession := by
  refine ⟨?_, ?_⟩
  · intro r s b hbody begins cancels
    have runBegin : exec (.loadBegin r) s = .next (answerRequest codeLoadBegin 1 r loadBegin s) := rfl
    have runCancel : exec (.loadCancel r) s = .next (answerRequest codeLoadCancel 1 r loadCancel s) := rfl
    have hbegins {act : State → Answer} (h : ∀ t, t.store = s.store → loadBegin [b] t = act t) : begins act :=
      runBegin.trans ((next_answerRequest 1 hbody rfl).trans
        (answered_ext fun t ⟨_, _, _, _, _, _, _, hstore, _⟩ => h t hstore))
    have hcancels {act : State → Answer} (h : ∀ t, t.store = s.store → loadCancel [b] t = act t) : cancels act :=
      runCancel.trans ((next_answerRequest 1 hbody rfl).trans
        (answered_ext fun t ⟨_, _, _, _, _, _, _, hstore, _⟩ => h t hstore))
    refine ⟨fun hb => ⟨hbegins fun t _ => loadBegin_unknown hb t, hcancels fun t _ => loadCancel_unknown hb t⟩, ?_⟩
    rintro k rfl
    refine ⟨fun h => ?_, fun hs ht => ?_, fun hk ht => ⟨fun hs => ?_, fun hs => ?_⟩, fun h => ⟨fun p hs => ?_, fun hs => ?_⟩⟩
    · exact hbegins fun t hstore => loadBegin_busy (by rwa [hstore])
    · exact hbegins fun t hstore => by rw [loadBegin_opens (by rwa [hstore]) (by rwa [hstore]), hstore]
    · subst hk
      exact hcancels fun t hstore => loadCancel_busy (by rwa [hstore]) (by rwa [hstore])
    · subst hk
      exact hcancels fun t hstore => by rw [loadCancel_reopens (by rwa [hstore]) (by rwa [hstore]), hstore]
    · exact hcancels fun t hstore => by rw [loadCancel_closes (by rwa [hstore]) (by rwa [hstore]), hstore]
    · exact hcancels fun t hstore => loadCancel_sequence (by rwa [hstore]) (by rwa [hstore])
  · intro r s k p body hs hbody hlen sends at_ takes
    have run : exec (.loadEntry r) s = .next (answerRequest codeLoadEntry (entryLength k) r (loadEntry ⟨k, p⟩) s) := by
      have htake : exec (.loadEntry r) s = .next (takeLoadEntry r s) := rfl
      simp only [htake, takeLoadEntry, hs]
    have hsends {act : State → Answer} (h : ∀ t, t.store = s.store → loadEntry ⟨k, p⟩ body t = act t) : sends act :=
      run.trans ((next_answerRequest _ hbody hlen).trans
        (answered_ext fun t ⟨_, _, _, _, _, _, _, hstore, _⟩ => h t hstore))
    have hrange (h : stageEntry k body s.store = none) : sends (refuse .range) :=
      hsends fun t hstore => loadEntry_outOfRange (by rwa [hstore])
    refine ⟨fun hp => hsends fun t _ => loadEntry_full hp body t, fun hp => ?_⟩
    have htakes {store : ProfileStore} (h : stageEntry k body s.store = some store) : takes store :=
      hsends fun t hstore => loadEntry_staged hp (by rwa [hstore])
    refine ⟨fun hk => ?_, fun hk => ?_, fun hk => ?_⟩
    · intro e inRange
      subst hk
      have hstage := stageEntry_profile hlen s.store
      have hok : profileEntryOk (statedEntry body) = true ↔ inRange := profileEntryOk_iff _
      exact ⟨fun h => hrange (by rw [hstage, if_neg (by rwa [hok])]),
        fun h => htakes (by rw [hstage, if_pos (hok.2 h)]; rfl)⟩
    · intro c
      subst hk
      have hstage := stageEntry_tilt hlen s.store
      exact ⟨fun h => hrange (hstage.trans (if_neg (not_le.2 h))), fun h => htakes (hstage.trans (if_pos h))⟩
    · intro q inRange
      have hfour : body.length = 4 := by obtain rfl | rfl := hk <;> exact hlen
      have hstage := stageEntry_point hk hfour s.store
      exact ⟨fun h => hrange (hstage.trans (if_neg h)), fun h => htakes (hstage.trans (if_pos h))⟩

end Sys2Proof.Scope

namespace Sys2Proof.Machine

/-! ## The bytes of a committed table's reply -/

theorem byte_mul_add (n : Nat) (b : Byte) : byte (n * 256 + b.toNat) = b := by
  apply BitVec.eq_of_toNat_eq
  have hb := b.isLt
  simp only [byte, BitVec.toNat_ofNat]
  omega

theorem byte_toNat (b : Byte) : byte b.toNat = b := by
  simpa using byte_mul_add 0 b

theorem word2_div (a b : Byte) : word2 a b / 256 = a.toNat := by
  have hb := b.isLt
  unfold word2
  omega

theorem bytes2_word2 (a b : Byte) : bytes2 (word2 a b) = [a, b] := by
  have hlow : byte (word2 a b) = b := byte_mul_add _ b
  rw [bytes2, word2_div, hlow, byte_toNat]

theorem bytes4_word4 (a b c d : Byte) : bytes4 (word4 a b c d) = [a, b, c, d] := by
  have hword : word4 a b c d = (word2 a b * 256 + c.toNat) * 256 + d.toNat := by
    unfold word4 word2
    omega
  have hc := c.isLt
  have hd := d.isLt
  have hdiv : word4 a b c d / 256 = word2 a b * 256 + c.toNat := by omega
  have hdiv2 : word4 a b c d / 65536 = word2 a b := by omega
  have hdiv3 : word4 a b c d / 16777216 = a.toNat := by
    rw [← word2_div a b]
    omega
  have hb : byte (word2 a b) = b := byte_mul_add _ b
  rw [bytes4, hdiv, hdiv2, hdiv3, hword, byte_mul_add, byte_mul_add, hb, byte_toNat]

theorem commitBody_at_once (k : TableKind) (c0 c1 : Byte) (result : Nat) :
    commitBody k (word2 c0 c1) result none = [kindByte k, c0, c1, byte result, 0, 0, 0, 0, 0] := by
  rw [commitBody, bytes2_word2]
  rfl

theorem commitBody_pending (k : TableKind) (c0 c1 t0 t1 t2 t3 : Byte) (result : Nat) :
    commitBody k (word2 c0 c1) result (some (word4 t0 t1 t2 t3)) =
      [kindByte k, c0, c1, byte result, 1, t0, t1, t2, t3] := by
  rw [commitBody, bytes2_word2, Option.getD_some, bytes4_word4]
  rfl

/-! ## The validation of a staging -/

/-- A relation of neighbours, by their places. -/
theorem isChain_iff_getElem? {α : Type} (R : α → α → Prop) (l : List α) :
    l.IsChain R ↔ ∀ (i : Nat) (a b : α), l[i]? = some a → l[i + 1]? = some b → R a b := by
  rw [List.isChain_iff_getElem]
  constructor
  · intro h i a b ha hb
    obtain ⟨hi, rfl⟩ := List.getElem?_eq_some_iff.1 hb
    obtain ⟨_, rfl⟩ := List.getElem?_eq_some_iff.1 ha
    exact h i hi
  · intro h i hi
    exact h i _ _ (List.getElem?_eq_getElem _) (List.getElem?_eq_getElem hi)

theorem startsIncrease_iff (l : List ProfileEntry) :
    startsIncrease l = true ↔ (l.map (fun e => e.start)).IsChain (· < ·) := by
  induction l with
  | nil => simp [startsIncrease]
  | cons a l ih =>
    cases l with
    | nil => simp [startsIncrease]
    | cons b rest => simpa [startsIncrease] using fun _ => ih

theorem pointsOrdered_iff (l : List MapPoint) : pointsOrdered l = true ↔
    (l.map (fun p => p.d)).IsChain (· < ·) ∧ (l.map (fun p => p.i)).IsChain (· ≤ ·) := by
  induction l with
  | nil => simp [pointsOrdered]
  | cons a l ih =>
    cases l with
    | nil => simp [pointsOrdered]
    | cons b rest =>
      simp only [List.map_cons] at ih
      simp only [pointsOrdered, Bool.and_eq_true, decide_eq_true_eq, List.map_cons, List.isChain_cons_cons, ih]
      tauto

theorem offsetsInRange_iff (l : List Int) :
    offsetsInRange l = true ↔ ∀ b ∈ l, -200000000 ≤ b ∧ b ≤ 200000000 := by
  simp [offsetsInRange]

theorem profileValid_iff (takeover : Nat) (s : State) : profileValid takeover s = true ↔
    let entries := s.store.staging.entries
    entries ≠ [] ∧ entries.head?.map (fun e => e.start) = some 0 ∧
      (entries.map (fun e => e.start)).IsChain (· < ·) ∧
      (∀ b ∈ baseOffsets (commitBasis s) entries, -200000000 ≤ b ∧ b ≤ 200000000) ∧
      (s.run.isOpen = true → s.chain.s < takeover ∧ takeover ≤ 5000000) := by
  simp only [← startsIncrease_iff, ← offsetsInRange_iff]
  show _ ↔ _ ∧ _ ∧ _ ∧ _ ∧ (s.run.isOpen = true → s.chain.s < takeover ∧ takeover ≤ chainageMax)
  unfold profileValid
  cases s.run.isOpen <;> simp [and_assoc]

theorem mapValid_iff (l : List MapPoint) : mapValid l = true ↔
    2 ≤ l.length ∧ l.head?.map (fun p => p.d) = some 0 ∧ l.getLast?.map (fun p => p.d) = some 10000 ∧
      (l.map (fun p => p.d)).IsChain (· < ·) ∧ (l.map (fun p => p.i)).IsChain (· ≤ ·) := by
  simp only [mapValid, Bool.and_eq_true, pointsOrdered_iff, decide_eq_true_eq, beq_iff_eq, and_assoc]

/-! ## The commit -/

theorem commitSession_closed {s : State} (h : s.store.session = none) (cnt takeover : Nat) :
    commitSession cnt takeover s = refuse .sequence s := by
  simp [commitSession, h]

theorem commitSession_count {s : State} {k : TableKind} {p cnt : Nat} (hs : s.store.session = some ⟨k, p⟩) (h : cnt ≠ p)
    (takeover : Nat) : commitSession cnt takeover s = refuse .sequence s := by
  simp [commitSession, hs, h]

theorem commitSession_invalid {s : State} {k : TableKind} {p takeover : Nat} (hs : s.store.session = some ⟨k, p⟩)
    (h : ¬ stagingValid k takeover s = true) : commitSession p takeover s = refuse .range s := by
  simp [commitSession, hs, h]

theorem commitSession_profile {s : State} {p takeover : Nat} (hs : s.store.session = some ⟨.profile, p⟩)
    (h : stagingValid .profile takeover s = true) : commitSession p takeover s =
      done (if s.run.isOpen then commitBody .profile p 2 (some takeover) else commitBody .profile p 1 none)
        (commitProfile takeover s) := by
  simp [commitSession, hs, h]

theorem commitSession_table {s : State} {k : TableKind} {p takeover : Nat} (hs : s.store.session = some ⟨k, p⟩)
    (hk : k ≠ .profile) (h : stagingValid k takeover s = true) : commitSession p takeover s =
      if s.ctl.state = .auto ∨ s.ctl.state = .hold ∨ s.ctl.state = .test then refuse .state s
      else done (commitBody k p 0 none) (setStore (commitTable k s.store) s) := by
  cases k
  case profile => exact absurd rfl hk
  all_goals simp [commitSession, hs, h]

theorem commitTable_eq {k : TableKind} (hk : k ≠ .profile) (p : ProfileStore) : commitTable k p =
    if k = .tilt then { p with tiltTable := some (stagedTilt p.shared), session := none }
    else if k = .valveRaise then { p with raiseMap := some (stagedPoints p.shared), session := none }
    else { p with lowerMap := some (stagedPoints p.shared), session := none } := by
  cases k
  case profile => exact absurd rfl hk
  all_goals rfl

/-- A profile committed with no run open becomes ACTIVE at once (R47). -/
theorem commitProfile_closed {s : State} (h : s.run.isOpen = false) (takeover : Nat) : commitProfile takeover s =
    swapped { s with store := { s.store with staging := committedStaging s, session := none } } := by
  simp [commitProfile, h, swapBanks_eq, setStore]

theorem commitProfile_open {s : State} (h : s.run.isOpen = true) (takeover : Nat) : commitProfile takeover s =
    { s with store := { s.store with
      staging := committedStaging s, session := none, takeover := some takeover } } := by
  simp [commitProfile, h, setStore]

/-- What a valid staging is, of each kind (R46, R48, R124). -/
theorem stagingValid_iff (k : TableKind) (takeover : Nat) (s : State) : stagingValid k takeover s = true ↔
    (k = .profile → profileValid takeover s = true) ∧
    (k = .tilt → (stagedTilt s.store.shared).length = 25) ∧
    (k = .valveRaise ∨ k = .valveLower → mapValid (stagedPoints s.store.shared) = true) := by
  cases k <;> simp [stagingValid]

end Sys2Proof.Machine

namespace Sys2Proof.Scope

open Machine

/-- Settles O54: the checks of the commit in their order, and the bytes of its reply. -/
theorem loadCommit : Obligations.LoadCommit := by
  intro r s c0 c1 t0 t1 t2 t3 hbody count takeover sends entries basis offsets points tilts rising neverFalling valid
  have run : exec (.loadCommit r) s = .next (answerRequest codeLoadCommit 6 r Machine.loadCommit s) := rfl
  have hsends {act : State → Answer} (h : ∀ t, t.store = s.store → t.run = s.run → t.ctl = s.ctl → t.chain = s.chain →
      commitSession count takeover t = act t) : sends act :=
    run.trans ((next_answerRequest 6 hbody rfl).trans
      (answered_ext fun t ⟨_, _, _, _, hchain, _, _, hstore, hrun, hctl, _⟩ => h t hstore hrun hctl hchain))
  have hvalid (k : TableKind) : valid k ↔ stagingValid k takeover s = true := by
    rw [stagingValid_iff, profileValid_iff, mapValid_iff]
    simp only [isChain_iff_getElem?]
    rfl
  have hcarry (t : State) (hstore : t.store = s.store) (hrun : t.run = s.run) (hchain : t.chain = s.chain) (k : TableKind) :
      stagingValid k takeover t = stagingValid k takeover s := by
    cases k <;> simp [stagingValid, profileValid, commitBasis, hstore, hrun, hchain]
  refine ⟨fun hs => ?_, fun k p hs => ⟨fun hcount => ?_, fun hcount hk => ?_, fun hcount hk hprofile => ?_,
    fun hcount hk hprofile => ?_⟩⟩
  · exact hsends fun t hstore _ _ _ => commitSession_closed (by rwa [hstore]) count takeover
  · exact hsends fun t hstore _ _ _ => commitSession_count (by rwa [hstore]) hcount takeover
  · subst hcount
    exact hsends fun t hstore hrun _ hchain =>
      commitSession_invalid (by rwa [hstore]) (by rwa [hcarry t hstore hrun hchain, ← hvalid])
  · subst hcount hprofile
    have hcommit (t : State) (hstore : t.store = s.store) (hrun : t.run = s.run) (hchain : t.chain = s.chain) :=
      commitSession_profile (s := t) (takeover := takeover) (hstore ▸ hs)
        ((hcarry t hstore hrun hchain _).trans ((hvalid _).1 hk))
    have hbank (t : State) (hstore : t.store = s.store) (hrun : t.run = s.run) :
        committedStaging t = ⟨entries, basis, offsets⟩ := by
      simp only [committedStaging, commitBasis, hstore, hrun]
      rfl
    refine ⟨fun hclosed => ?_, fun hopen => ?_⟩
    · refine hsends fun t hstore hrun _ hchain => ?_
      have ht : t.run.isOpen = false := hrun ▸ hclosed
      rw [hcommit t hstore hrun hchain, commitProfile_closed ht, hbank t hstore hrun, ht, hstore]
      simp only [count, Bool.false_eq_true, if_false, commitBody_at_once]
      rfl
    · refine hsends fun t hstore hrun _ hchain => ?_
      have ht : t.run.isOpen = true := hrun ▸ hopen
      rw [hcommit t hstore hrun hchain, commitProfile_open ht, hbank t hstore hrun, ht, hstore]
      simp only [count, takeover, if_true, commitBody_pending]
      rfl
  · subst hcount
    have hcommit (t : State) (hstore : t.store = s.store) (hrun : t.run = s.run) (hchain : t.chain = s.chain) :=
      commitSession_table (s := t) (takeover := takeover) (hstore ▸ hs) hprofile
        ((hcarry t hstore hrun hchain _).trans ((hvalid _).1 hk))
    refine ⟨fun hst => ?_, fun hauto hhold htest => ?_⟩
    · exact hsends fun t hstore hrun hctl hchain => (hcommit t hstore hrun hchain).trans (if_pos (hctl ▸ hst))
    · refine hsends fun t hstore hrun hctl hchain => ?_
      have hst : ¬ (t.ctl.state = .auto ∨ t.ctl.state = .hold ∨ t.ctl.state = .test) := by
        rw [hctl]
        tauto
      rw [hcommit t hstore hrun hchain, if_neg hst, commitTable_eq hprofile, commitBody_at_once, hstore]
      rfl

end Sys2Proof.Scope
end

section
/-! The beam table's invariant (R20, R21, R24 to R28, R30 to R39): every command keeps it. -/

namespace Sys2Proof.Machine

/-! ## What the invariant reads -/

/-- What leaves the beam table alone keeps it sound. -/
theorem beamsSound_of_eq {s t : State} (h : BeamsSound s) (hb : t.beams = s.beams := by simp) : BeamsSound t := by
  have he := beam_congr hb
  exact ⟨by simpa only [he] using h.entry, by simpa only [he] using h.one⟩

/-- The table is sound where its entries are those of a sound one. -/
theorem beamsSound_of_entries {s t : State} (h : BeamsSound s) (hb : ∀ c, beam t c = beam s c) : BeamsSound t :=
  ⟨by simpa only [hb] using h.entry, by simpa only [hb] using h.one⟩

theorem beamsSound_latchHere {s : State} (e : Event) (b : Option BeamCode) (h : BeamsSound s) :
    BeamsSound (latchHere e b s) := beamsSound_of_eq h

theorem beamsSound_besideQueues : BesideQueues BeamsSound := by
  rintro s t ⟨-, -, -, -, -, hb, -⟩ h
  exact beamsSound_of_eq h hb

/-- An entry in acquisition or out of sight holds no offset and no samples (R20). -/
theorem beamSound_unsighted_iff {e : Beam} (h : Unsighted e) : BeamSound e ↔ e.offset = none ∧ e.window = [] := by
  refine ⟨fun he => ⟨?_, ?_⟩, fun ⟨ho, hw⟩ => ⟨?_, ?_, ?_, ?_⟩⟩
  · have := he.offset
    obtain h | h | h := h <;> simpa [h] using this
  · by_contra hw
    have := he.window hw
    obtain h | h | h := h <;> simp [h] at this
  all_goals obtain h | h | h := h <;> simp [h, ho, hw]

/-- An entry in TRACKING holds a height and no offset (R24, R33). -/
theorem beamSound_tracking_iff {e : Beam} (h : e.state = .tracking) :
    BeamSound e ↔ e.offset = none ∧ e.accepted.isSome = true := by
  refine ⟨fun he => ⟨?_, he.height (Or.inl h)⟩, fun ⟨ho, ha⟩ => ⟨?_, fun _ => ha, fun _ => h, ?_⟩⟩
  · simpa [h] using he.offset
  all_goals simp [h, ho]

/-- An entry in ESTABLISHED or REFERENCE holds a height and an offset, and no samples (R20, R34, R35). -/
theorem beamSound_steady_iff {e : Beam} (h : e.state = .established ∨ e.state = .reference) :
    BeamSound e ↔ e.offset.isSome = true ∧ e.accepted.isSome = true ∧ e.window = [] := by
  refine ⟨fun he => ⟨he.offset.2 (by tauto), he.height (by tauto), ?_⟩, fun ⟨ho, ha, hw⟩ => ⟨?_, fun _ => ha, ?_, ?_⟩⟩
  · by_contra hw
    have := he.window hw
    obtain h | h := h <;> simp [h] at this
  all_goals obtain h | h := h <;> simp [h, ho, hw]

/-- An entry in FADING holds a height, an offset and a fade time, and no samples (R20, R26). -/
theorem beamSound_fading_iff {e : Beam} (h : e.state = .fading) : BeamSound e ↔
    e.offset.isSome = true ∧ e.accepted.isSome = true ∧ e.window = [] ∧ e.fade.isSome = true := by
  refine ⟨fun he => ⟨he.offset.2 (by tauto), he.height (by tauto), ?_, he.fade h⟩,
    fun ⟨ho, ha, hw, hf⟩ => ⟨?_, fun _ => ha, ?_, fun _ => hf⟩⟩
  · by_contra hw
    simpa [h] using he.window hw
  all_goals simp [h, ho, hw]

/-- An entry replaced by a sound one, which is the reference only where no other entry is. -/
theorem beamsSound_setBeam {s : State} {c : BeamCode} {e : Beam} (h : BeamsSound s) (he : BeamSound e)
    (hone : isRef e = true → ∀ d, isRef (beam s d) = true → d = c) : BeamsSound (setBeam c e s) := by
  refine ⟨fun d => ?_, fun d d' hd hd' => ?_⟩
  · rw [beam_setBeam]
    split <;> [exact he; exact h.entry d]
  · rw [beam_setBeam] at hd hd'
    split at hd <;> split at hd'
    · simp_all
    · exact (by assumption : d = c).trans (hone hd d' hd').symm
    · exact (hone hd' d hd).trans (by assumption : d' = c).symm
    · exact h.one d d' hd hd'

/-- An entry replaced by a sound one that is not the reference. -/
theorem beamsSound_setBeam_of_not {s : State} {c : BeamCode} {e : Beam} (h : BeamsSound s) (he : BeamSound e)
    (hr : isRef e = false) : BeamsSound (setBeam c e s) :=
  beamsSound_setBeam h he (by simp [hr])

/-- The reference replaced by a sound entry. -/
theorem beamsSound_setBeam_of_ref {s : State} {c : BeamCode} {e : Beam} (h : BeamsSound s) (he : BeamSound e)
    (hc : isRef (beam s c) = true) : BeamsSound (setBeam c e s) :=
  beamsSound_setBeam h he fun _ d hd => h.one d c hd hc

/-- A change to every entry that keeps each sound and makes none the reference. -/
theorem beamsSound_mapBeams {s : State} {g : Beam → Beam} (h : BeamsSound s) (hg : ∀ e, BeamSound e → BeamSound (g e))
    (hr : ∀ e, isRef (g e) = true → isRef e = true) : BeamsSound (mapBeams g s) := by
  refine ⟨fun d => ?_, fun d d' hd hd' => ?_⟩
  · rw [beam_mapBeams]
    exact hg _ (h.entry d)
  · rw [beam_mapBeams] at hd hd'
    exact h.one d d' (hr _ hd) (hr _ hd')

/-- Emptying its window keeps an entry sound (R35). -/
theorem beamSound_windowless {e : Beam} (h : BeamSound e) : BeamSound { e with window := [] } :=
  ⟨h.offset, h.height, fun hw => absurd rfl hw, h.fade⟩

theorem beamsSound_windowless {s : State} (h : BeamsSound s) :
    BeamsSound (mapBeams (fun e => { e with window := [] }) s) :=
  beamsSound_mapBeams h (fun _ => beamSound_windowless) fun _ hr => hr

theorem beamsSound_referenceChanged {s : State} (h : BeamsSound s) : BeamsSound (referenceChanged s) :=
  beamsSound_of_eq (beamsSound_windowless h) rfl

/-! ## Strikes -/

/-- What the strike interpreter does to the entry of its beam, `x` being what it leaves of `e` (R5 to R10, R20): a height
where one is accepted, and the fade time kept by what is no usable strike. -/
structure Struck (r : StrikeResult) (e x : Beam) : Prop where
  state : x.state = e.state := by rfl
  offset : x.offset = e.offset := by rfl
  window : x.window = e.window := by rfl
  height : e.accepted.isSome = true → x.accepted.isSome = true := by exact id
  taken : ∀ b, r = .accepted b ∨ r = .rebased b → x.accepted.isSome = true := by simp
  fade : r = .jumpRejected ∨ r = .multi → e.state = .fading → x.fade = e.fade := by simp

/-- The strike interpreter writes the entry of its beam alone (R6 to R10). -/
theorem handleKind_struck (c : BeamCode) (kind : StrikeKind) (s : State) : ∃ x,
    Struck (handleKind c kind s).1 (beam s c) x ∧ ∀ d, beam (handleKind c kind s).2 d = beam (setBeam c x s) d := by
  have accepted {r : StrikeResult} (b : Int) (hr : r = .accepted b ∨ r = .rebased b) :
      Struck r (beam s c) { beam s c with
        accepted := some ⟨b, s.now.ms⟩, rejects := 0, lastStrike := some s.now.ms, fade := none } :=
    { height := fun _ => rfl, taken := fun _ _ => rfl, fade := by obtain rfl | rfl := hr <;> simp }
  cases kind with
  | single p =>
    simp only [handleKind, failWindow]
    split <;> [skip; split]
    · exact ⟨_, accepted _ (Or.inl rfl), fun _ => rfl⟩
    · refine ⟨{ beam s c with
        rejects := (beam s c).rejects + 1, lastStrike := some s.now.ms
        fade := if (beam s c).state = .fading then (beam s c).fade else none }, { fade := fun _ hf => if_pos hf }, ?_⟩
      simp
    · refine ⟨_, accepted _ (Or.inr rfl), fun d => ?_⟩
      by_cases hd : d = c <;> simp [acceptHeight, hd]
  | edgeHigh =>
    exact ⟨_, { taken := by simp [handleKind], fade := by simp [handleKind] }, fun _ => rfl⟩
  | edgeLow =>
    exact ⟨_, { taken := by simp [handleKind], fade := by simp [handleKind] }, fun _ => rfl⟩
  | multi =>
    refine ⟨beam s c, { taken := by simp [handleKind], fade := fun _ _ => rfl }, fun d => ?_⟩
    by_cases hd : d = c <;> simp [handleKind, hd]

/-- A struck entry stays sound, unless it is FADING and the strike a usable one. -/
theorem beamSound_of_struck {r : StrikeResult} {e x : Beam} (h : BeamSound e) (hx : Struck r e x)
    (hf : e.state = .fading → r = .jumpRejected ∨ r = .multi) : BeamSound x where
  offset := by rw [hx.offset, hx.state]; exact h.offset
  height := by rw [hx.state]; exact fun hs => hx.height (h.height hs)
  window := by rw [hx.window, hx.state]; exact h.window
  fade := by
    rw [hx.state]
    intro hs
    rw [hx.fade (hf hs) hs]
    exact h.fade hs

theorem isRef_of_state {e x : Beam} (h : x.state = e.state) : isRef x = isRef e := by
  simp [isRef, h]

/-- A sound table without a reference may take an entry as one (R21). -/
theorem beamsSound_first {s : State} {c : BeamCode} {e : Beam} (h : BeamsSound s) (he : BeamSound e)
    (hnone : ∀ d, isRef (beam s d) = false) : BeamsSound (setBeam c e s) :=
  beamsSound_setBeam h he fun _ d hd => by simp [hnone d] at hd

theorem not_isRef_of_reference_none {s : State} (h : reference s = none) (d : BeamCode) : isRef (beam s d) = false := by
  unfold reference at h
  have := List.find?_eq_none.1 h d (by cases d <;> decide)
  simpa using this

/-- An entry in ESTABLISHED goes back to TRACKING without its offset, and every window is emptied (R30, R31). -/
theorem beamSound_dropEstablished {e : Beam} (h : BeamSound e) : BeamSound (dropEstablished e) := by
  unfold dropEstablished
  split
  · rename_i hs
    exact (beamSound_tracking_iff rfl).2 ⟨rfl, h.height (by tauto)⟩
  · exact h

theorem isRef_dropEstablished (e : Beam) : isRef (dropEstablished e) = isRef e := by
  unfold dropEstablished
  split <;> simp_all [isRef]

/-- A first reference is chosen where there is none (R31). -/
theorem beamsSound_chooseFirst {s : State} {c : BeamCode} (h : BeamsSound s)
    (ha : (beam s c).accepted.isSome = true) (ht : (beam s c).state = .tracking) : BeamsSound (chooseFirst c s) := by
  unfold chooseFirst
  split
  · rename_i hc
    obtain ⟨hnone, -⟩ := hc
    have hnot := not_isRef_of_reference_none (Option.isNone_iff_eq_none.1 hnone)
    have hdrop : BeamsSound (mapBeams dropEstablished s) :=
      beamsSound_mapBeams h (fun _ => beamSound_dropEstablished) fun e => by rw [isRef_dropEstablished]; exact id
    refine beamsSound_of_eq (s := setBeam c _ (mapBeams _ (mapBeams dropEstablished s))) ?_
      (by rw [referenceChanged, mapBeams_setBeam]; rfl)
    refine beamsSound_first (beamsSound_windowless hdrop) ?_ (fun d => ?_)
    · refine (beamSound_steady_iff (Or.inr rfl)).2 ⟨rfl, ?_, rfl⟩
      simpa [dropEstablished, ht] using ha
    · have := hnot d
      rw [← isRef_dropEstablished] at this
      simpa [isRef] using this
  · exact h

/-- An entry that has reached TRACKING holds a height (R24). -/
theorem beamsSound_acquired {s : State} {c : BeamCode} (h : BeamsSound s) (hu : Unsighted (beam s c))
    (ha : (beam s c).accepted.isSome = true) : BeamsSound (acquired c s) := by
  obtain ⟨ho, -⟩ := (beamSound_unsighted_iff hu).1 (h.entry c)
  exact beamsSound_latchHere .beamAcquired (some c)
    (beamsSound_setBeam_of_not h ((beamSound_tracking_iff rfl).2 ⟨ho, ha⟩) rfl)

/-- An entry begins or continues its acquisition (R23, R24). -/
theorem beamsSound_acquiring {s : State} {c : BeamCode} (n : Nat) (h : BeamsSound s) (hu : Unsighted (beam s c)) :
    BeamsSound (setBeam c { beam s c with state := .acquiring, good := n } s) :=
  beamsSound_setBeam_of_not h
    ((beamSound_unsighted_iff (Or.inr (Or.inr rfl))).2 ((beamSound_unsighted_iff hu).1 (h.entry c))) rfl

/-- A strike that gives no height begins the acquisition of an entry, or sets its good count back, or does nothing to it
(R23, R24). -/
theorem beamTransition_of_unusable {c : BeamCode} {r : StrikeResult} {s : State}
    (hr : ∀ b, r ≠ .accepted b ∧ r ≠ .rebased b) (h : Unsighted (beam s c)) : beamTransition c r s = s ∨
      ∃ n, beamTransition c r s = setBeam c { beam s c with state := .acquiring, good := n } s := by
  cases r with
  | accepted b => simp at hr
  | rebased b => simp at hr
  | multi =>
    left
    obtain h | h | h := h <;> simp [beamTransition, h]
  | jumpRejected =>
    right
    refine ⟨0, ?_⟩
    obtain h | h | h := h <;> simp [beamTransition, h]
  | edgeHigh | edgeLow =>
    obtain h | h | h := h
    · exact Or.inr ⟨0, by simp [beamTransition, h]⟩
    · exact Or.inr ⟨0, by simp [beamTransition, h]⟩
    · exact Or.inl (by simp [beamTransition, h])

/-- Offset estimation keeps the table sound: a full window gives an offset or is emptied (R33, R34). -/
theorem beamsSound_judgeWindow {s : State} {c : BeamCode} (h : BeamsSound s) (ht : (beam s c).state = .tracking) :
    BeamsSound (judgeWindow c s) := by
  obtain ⟨ho, ha⟩ := (beamSound_tracking_iff ht).1 (h.entry c)
  unfold judgeWindow
  dsimp only
  split <;> [split; skip]
  · exact beamsSound_latchHere _ _
      (beamsSound_setBeam_of_not h ((beamSound_steady_iff (Or.inl rfl)).2 ⟨rfl, ha, rfl⟩) rfl)
  · exact beamsSound_latchHere _ _
      (beamsSound_setBeam_of_not h ((beamSound_tracking_iff (by exact ht)).2 ⟨ho, ha⟩) (by simp [isRef, ht]))
  · exact h

theorem beamsSound_pairStrike {s : State} {c : BeamCode} (b : Int) (h : BeamsSound s)
    (ht : (beam s c).state = .tracking) : BeamsSound (pairStrike c b s) := by
  obtain ⟨ho, ha⟩ := (beamSound_tracking_iff ht).1 (h.entry c)
  unfold pairStrike
  repeat' split
  · exact h
  · exact h
  · exact beamsSound_judgeWindow (beamsSound_setBeam_of_not h ((beamSound_tracking_iff (by exact ht)).2 ⟨ho, ha⟩)
      (by simp [isRef, ht])) (by simpa)
  · exact h

/-- The entry of a usable strike in FADING returns as the reference (R27). -/
theorem beamsSound_fadingReturns {s : State} {c : BeamCode} {x : Beam} {r : StrikeResult} (h : BeamsSound s)
    (hx : Struck r (beam s c) x) (hf : (beam s c).state = .fading) :
    BeamsSound (setBeam c { x with state := .reference, fade := none } s) := by
  obtain ⟨ho, ha, hw, -⟩ := (beamSound_fading_iff hf).1 (h.entry c)
  refine beamsSound_setBeam_of_ref h ((beamSound_steady_iff (Or.inr rfl)).2 ⟨?_, hx.height ha, ?_⟩)
    ((isRef_iff _).2 (Or.inr hf))
  · simpa [hx.offset] using ho
  · simpa [hx.window] using hw

/-- The beam table's part of a strike, on the table `w` that the strike interpreter leaves of `s` (R23, R24, R27,
R31 to R34). -/
theorem beamsSound_beamTransition {s w : State} {c : BeamCode} {x : Beam} {r : StrikeResult} (h : BeamsSound s)
    (hx : Struck r (beam s c) x) (hw : ∀ d, beam w d = beam (setBeam c x s) d) :
    BeamsSound (beamTransition c r w) := by
  have hc : beam w c = x := by simp [hw]
  have hst : (beam w c).state = (beam s c).state := by rw [hc, hx.state]
  have hsound (hf : (beam s c).state = .fading → r = .jumpRejected ∨ r = .multi) : BeamsSound w := by
    refine beamsSound_of_entries (beamsSound_setBeam h (beamSound_of_struck (h.entry c) hx hf) fun hr d hd => ?_) hw
    rw [isRef_of_state hx.state] at hr
    exact h.one d c hd hr
  have unsighted (hu : Unsighted (beam s c)) : BeamsSound (beamTransition c r w) := by
    have hws := hsound fun hf => by obtain hu | hu | hu := hu <;> simp [hu] at hf
    have hu' : Unsighted (beam w c) := by rwa [Unsighted, hst]
    by_cases hr : ∃ b, r = .accepted b ∨ r = .rebased b
    · obtain ⟨b, hr⟩ := hr
      have ha : (beam w c).accepted.isSome = true := by rw [hc]; exact hx.taken b hr
      rw [beamTransition_of_unsighted hr hu']
      split
      · exact beamsSound_acquiring _ hws hu'
      · exact beamsSound_chooseFirst (beamsSound_acquired hws hu' ha) (by simpa [acquired] using ha)
          (state_acquired c w)
    · obtain hb | ⟨n, hb⟩ := beamTransition_of_unusable (by simpa [not_or] using hr) hu' <;> rw [hb]
      · exact hws
      · exact beamsSound_acquiring n hws hu'
  cases hs : (beam s c).state with
  | unseen => exact unsighted (Or.inl hs)
  | lost => exact unsighted (Or.inr (Or.inl hs))
  | acquiring => exact unsighted (Or.inr (Or.inr hs))
  | tracking =>
    have hws := hsound (by simp [hs])
    rw [hs] at hst
    cases r with
    | accepted b | rebased b => simpa [beamTransition, hst] using beamsSound_pairStrike b hws hst
    | _ => simpa [beamTransition, hst] using hws
  | established | reference =>
    rw [beamTransition_of_still r (by simp [hst, hs])]
    exact hsound (by simp [hs])
  | fading =>
    rw [hs] at hst
    have returns : BeamsSound (reportRecovered (setBeam c { beam w c with state := .reference, fade := none } w)) := by
      refine beamsSound_of_eq (s := setBeam c { beam w c with state := .reference, fade := none } w)
        (beamsSound_of_entries (beamsSound_fadingReturns h hx hs) fun d => ?_)
      by_cases hd : d = c <;> simp [hw, hd]
    cases r with
    | jumpRejected => simpa [beamTransition, hst] using hsound (by simp)
    | multi => simpa [beamTransition, hst] using hsound (by simp)
    | _ => simpa [beamTransition, hst] using returns

theorem beamsSound_checkSequence {s : State} (c : BeamCode) (n : Byte) (h : BeamsSound s) :
    BeamsSound (checkSequence c n s) := by
  have he : BeamSound { beam s c with seq := some n } := by
    obtain ⟨ho, ha, hw, hf⟩ := h.entry c
    exact ⟨ho, ha, hw, hf⟩
  exact beamsSound_of_entries (beamsSound_setBeam h he fun hr d hd => h.one d c hd hr) (by simp)

theorem beamsSound_handleStrike {s : State} (k : Strike) (h : BeamsSound s) : BeamsSound (handleStrike k s) := by
  obtain ⟨x, hx, hw⟩ := handleKind_struck k.code k.kind (checkSequence k.code k.seq s)
  exact beamsSound_of_eq (beamsSound_beamTransition (beamsSound_checkSequence k.code k.seq h) hx hw)
    (by simp [handleStrike])

theorem beamsSound_takeStrike {s : State} (f : Arrival) (h : BeamsSound s) : BeamsSound (takeStrike f s) := by
  unfold takeStrike
  split
  · exact beamsSound_of_eq h
  · exact beamsSound_handleStrike _ (beamsSound_of_eq h)

/-! ## Timeouts -/

/-- An entry in LOST holds nothing but its sequence record and last strike time (R25). -/
theorem beamSound_lostEntry (e : Beam) : BeamSound (lostEntry e) :=
  (beamSound_unsighted_iff (Or.inr (Or.inl rfl))).2 ⟨rfl, rfl⟩

@[simp] theorem beam_loseBeam (c d : BeamCode) (s : State) :
    beam (loseBeam c s) d = if d = c then lostEntry (beam s c) else beam s d := by
  have : (loseBeam c s).beams = (setBeam c (lostEntry (beam s c)) s).beams := by
    unfold loseBeam
    dsimp only
    split <;> [split; skip] <;> simp
  rw [beam_congr this, beam_setBeam]

theorem beamsSound_loseBeam {s : State} (c : BeamCode) (h : BeamsSound s) : BeamsSound (loseBeam c s) :=
  beamsSound_of_entries (s := setBeam c (lostEntry (beam s c)) s)
    (beamsSound_setBeam_of_not h (beamSound_lostEntry _) rfl) (by simp)

theorem beamsSound_strikeTimeout {s : State} (c : BeamCode) (h : BeamsSound s) : BeamsSound (strikeTimeout c s) := by
  unfold strikeTimeout
  split
  · exact beamsSound_loseBeam c h
  · exact h

/-- REFERENCE becomes FADING with its fade time (R26). -/
theorem beamsSound_fadeReference {s : State} {c : BeamCode} (h : BeamsSound s) (hc : (beam s c).state = .reference) :
    BeamsSound (fadeReference c s) := by
  obtain ⟨ho, ha, hw⟩ := (beamSound_steady_iff (Or.inr hc)).1 (h.entry c)
  have he : BeamSound { beam s c with state := .fading, fade := some s.now.ms } :=
    (beamSound_fading_iff rfl).2 ⟨ho, ha, hw, rfl⟩
  exact beamsSound_of_eq (beamsSound_setBeam_of_ref h he ((isRef_iff _).2 (Or.inl hc))) (by simp [fadeReference])

theorem beamsSound_referenceTimeout {s : State} (h : BeamsSound s) : BeamsSound (referenceTimeout s) := by
  unfold referenceTimeout
  split <;> [split; skip]
  · rename_i c hc hdue
    simp only [refTimeoutDue, hc, Bool.and_eq_true, decide_eq_true_eq] at hdue
    exact beamsSound_fadeReference h hdue.1
  all_goals exact h

/-- The better of two candidates is the one so far or the ESTABLISHED entry weighed against it (R36). -/
theorem latestOf_eq_some {s : State} {best : Option BeamCode} {c b : BeamCode} (h : latestOf s best c = some b) :
    best = some b ∨ (c = b ∧ (beam s c).state = .established) := by
  unfold latestOf at h
  split at h <;> [skip; exact Or.inl h]
  split at h <;> [skip; split at h] <;> simp_all

/-- The beam chosen for the automatic handover is ESTABLISHED (R36). -/
theorem state_of_latestEstablished {s : State} {y : BeamCode} (h : latestEstablished s = some y) :
    (beam s y).state = .established := by
  have key : ∀ (l : List BeamCode) (best : Option BeamCode), (∀ b, best = some b → (beam s b).state = .established) →
      ∀ b, l.foldl (latestOf s) best = some b → (beam s b).state = .established := by
    intro l
    induction l with
    | nil => exact fun _ hb => hb
    | cons d l ih =>
      refine fun best hb => ih _ fun b hl => ?_
      obtain hbest | ⟨rfl, hd⟩ := latestOf_eq_some hl
      · exact hb b hbest
      · exact hd
  exact key allBeams none (by simp) y h

/-- An ESTABLISHED entry takes over where there is no reference (R36, R37). -/
theorem beamsSound_takeOver {s : State} {y : BeamCode} (h : BeamsSound s) (hy : (beam s y).state = .established)
    (hnone : ∀ d, isRef (beam s d) = false) : BeamsSound (takeOver y s) := by
  obtain ⟨ho, ha, hw⟩ := (beamSound_steady_iff (Or.inl hy)).1 (h.entry y)
  exact beamsSound_latchHere .handoverDone (some y)
    (beamsSound_first h ((beamSound_steady_iff (Or.inr rfl)).2 ⟨ho, ha, hw⟩) hnone)

/-- With the reference lost no entry is the reference (R21, R28). -/
theorem not_isRef_loseBeam {s : State} {c : BeamCode} (h : BeamsSound s) (hc : isRef (beam s c) = true) (d : BeamCode) :
    isRef (beam (loseBeam c s) d) = false := by
  rw [beam_loseBeam]
  split
  · rfl
  · rename_i hd
    by_contra hr
    exact hd (h.one d c (by simpa using hr) hc)

theorem beamsSound_loseReference {s : State} {c : BeamCode} (h : BeamsSound s) (hc : isRef (beam s c) = true) :
    BeamsSound (loseReference c s) := by
  have hlost := beamsSound_referenceChanged (beamsSound_loseBeam c h)
  have hnone (d : BeamCode) : isRef (beam (referenceChanged (loseBeam c s)) d) = false := by
    rw [isRef_of_state (e := beam (loseBeam c s) d) (by simp)]
    exact not_isRef_loseBeam h hc d
  unfold loseReference
  dsimp only
  generalize referenceChanged (loseBeam c s) = u at hlost hnone
  split
  · rename_i y hy
    have hy : (beam u y).state = .established := by
      split at hy
      · exact state_of_latestEstablished hy
      · simp at hy
    exact beamsSound_of_eq (beamsSound_takeOver hlost hy hnone)
  · exact beamsSound_of_eq hlost

theorem beamsSound_fadingTimeout {s : State} (h : BeamsSound s) : BeamsSound (fadingTimeout s) := by
  unfold fadingTimeout
  split <;> [split; skip]
  · rename_i c hc _
    exact beamsSound_loseReference h (List.find?_some (p := fun c => isRef (beam s c)) hc)
  all_goals exact h

theorem beamsSound_expireAll {s : State} (h : BeamsSound s) : BeamsSound (expireAll s) := by
  have ha : BeamsSound (expireBeams s) := beamsSound_strikeTimeout .b3 (beamsSound_strikeTimeout .b2
    (beamsSound_strikeTimeout .b1 (beamsSound_strikeTimeout .b0 h)))
  rw [expireAll_eq]
  split
  · exact beamsSound_referenceTimeout ha
  · exact beamsSound_fadingTimeout ha

/-! ## Requests of the beam table -/

/-- The entry in REFERENCE or FADING goes back to TRACKING, or an ESTABLISHED one does (R39). -/
theorem beamSound_droppedForBench {e : Beam} (h : BeamSound e) : BeamSound (dropEstablished (dropReference e)) := by
  refine beamSound_dropEstablished ?_
  unfold dropReference
  split
  · rename_i hr
    exact (beamSound_tracking_iff rfl).2 ⟨rfl, h.height (by have := (isRef_iff e).1 hr; tauto)⟩
  · exact h

theorem not_isRef_droppedForBench (e : Beam) : isRef (dropEstablished (dropReference e)) = false := by
  rw [isRef_dropEstablished]
  unfold dropReference
  split <;> simp_all [isRef]

theorem accepted_droppedForBench (e : Beam) : (dropEstablished (dropReference e)).accepted = e.accepted := by
  unfold dropEstablished dropReference
  split <;> split <;> rfl

/-- A beam with a height is benched: it becomes the reference, and no other entry is (R39). -/
theorem beamsSound_benchBeam {s : State} {c : BeamCode} (h : BeamsSound s) (ha : (beam s c).accepted.isSome = true) :
    BeamsSound (benchBeam c s) := by
  have hdrop : BeamsSound (mapBeams (fun e => dropEstablished (dropReference e)) s) :=
    beamsSound_mapBeams h (fun _ => beamSound_droppedForBench) (by simp [not_isRef_droppedForBench])
  refine beamsSound_referenceChanged (beamsSound_first hdrop ((beamSound_steady_iff (Or.inr rfl)).2 ⟨rfl, ?_, rfl⟩) ?_)
  · simpa [accepted_droppedForBench] using ha
  · simp [not_isRef_droppedForBench]

theorem beamsSound_finishBench {s : State} {c : BeamCode} (d : Int) (h : BeamsSound s)
    (ha : (beam s c).accepted.isSome = true) : BeamsSound (finishBench c d s).state := by
  have hn : BeamsSound (noteTarget s.chain.s s) := beamsSound_of_eq h
  have hb : (beam (noteTarget s.chain.s s) c).accepted.isSome = true := by simpa [beam] using ha
  unfold finishBench
  split <;> [exact h; skip]
  dsimp only
  generalize noteTarget s.chain.s s = t at hn hb
  split <;> [exact hn; split]
  · exact beamsSound_of_eq hn rfl
  · exact beamsSound_of_eq (beamsSound_benchBeam hn hb) rfl

theorem beamsSound_benchNamed {s : State} (c : BeamCode) (h : BeamsSound s) : BeamsSound (benchNamed c s).state := by
  unfold benchNamed
  dsimp only
  split <;> [exact h; split] <;> [exact h; split] <;> [skip; exact h]
  rename_i hd _
  refine beamsSound_finishBench _ h ?_
  unfold depthThrough at hd
  split at hd <;> simp_all

theorem beamsSound_bench {s : State} (body : List Byte) (h : BeamsSound s) : BeamsSound (bench body s).state := by
  unfold bench
  split <;> [exact h; split] <;> split <;> [exact h; skip; exact h; skip] <;> exact beamsSound_benchNamed _ h

/-- The old reference stands down to ESTABLISHED, and the named beam takes over (R37). -/
theorem beamsSound_handoverTo {s : State} {c : BeamCode} (h : BeamsSound s) (hc : (beam s c).state = .established) :
    BeamsSound (handoverTo c s) := by
  have sound (e : Beam) (he : BeamSound e) : BeamSound (standDown e) := by
    unfold standDown
    split <;> [skip; exact he]
    rename_i hr
    have hr := (isRef_iff e).1 hr
    refine (beamSound_steady_iff (Or.inl rfl)).2 ⟨he.offset.2 (by tauto), he.height (by tauto), ?_⟩
    by_contra hw
    have := he.window hw
    obtain hr | hr := hr <;> simp [hr] at this
  have none (e : Beam) : isRef (standDown e) = false := by
    unfold standDown
    split <;> simp_all [isRef]
  have hstood : BeamsSound (mapBeams standDown s) := beamsSound_mapBeams h sound (by simp [none])
  refine beamsSound_of_eq (beamsSound_referenceChanged (beamsSound_takeOver (y := c) hstood ?_ ?_))
    (by simp [handoverTo])
  · simp [standDown, isRef, hc]
  · simp [none]

theorem beamsSound_handover {s : State} (body : List Byte) (h : BeamsSound s) : BeamsSound (handover body s).state := by
  unfold handover
  split <;> [exact h; split] <;> [skip; exact h]
  rename_i hc
  exact beamsSound_handoverTo h hc

/-- ADOPT gives a TRACKING entry its offset (R38). -/
theorem beamsSound_adopt {s : State} (body : List Byte) (h : BeamsSound s) : BeamsSound (adopt body s).state := by
  unfold adopt
  split <;> [skip; exact h]
  unfold adoptBeam
  split <;> [exact h; skip]
  split <;> [exact h; skip]
  split <;> [exact h; skip]
  rename_i c _ _ ht
  obtain ⟨-, ha⟩ := (beamSound_tracking_iff (not_not.1 ht)).1 (h.entry c)
  exact beamsSound_setBeam_of_not h ((beamSound_steady_iff (Or.inl rfl)).2 ⟨rfl, ha, rfl⟩) rfl

/-! ## Lines, parameters and resets -/

@[simp] theorem acceptLine_beams (l : Line) (s : State) : (acceptLine l s).beams = s.beams := by
  unfold acceptLine
  cases l with
  | odo | stop => dsimp only; split <;> simp
  | dir | dig => rfl

@[simp] theorem filterExpiry_beams (l : Line) (s : State) : (filterExpiry l s).beams = s.beams := by
  unfold filterExpiry
  split <;> simp

@[simp] theorem lineLevelChange_beams (l : Line) (high : Bool) (s : State) :
    (lineLevelChange l high s).beams = s.beams := by
  have start (t : State) : (startCandidate l t).beams = t.beams := by
    unfold startCandidate
    dsimp only
    split <;> [split; skip] <;> simp
  unfold lineLevelChange
  dsimp only
  split <;> simp [start]

theorem modeEffects_beams (s : State) : (∀ old, (depthModeEffect old s).beams = s.beams) ∧
    (∀ old, (travelModeEffect old s).beams = s.beams) ∧ (∀ old, (tickSourceEffect old s).beams = s.beams) ∧
    (tickEffect s).beams = s.beams := by
  refine ⟨fun old => ?_, fun old => ?_, fun old => ?_, ?_⟩
  · unfold depthModeEffect
    split <;> [split; skip] <;> simp
  · unfold travelModeEffect
    split <;> simp
  · unfold tickSourceEffect
    split <;> rfl
  · unfold tickEffect
    dsimp only
    split <;> rfl

theorem beamsSound_paramEffect {s : State} (id : Nat) (old : Params) (h : BeamsSound s) :
    BeamsSound (paramEffect id old s) := by
  obtain ⟨hd, ht, hsrc, htick⟩ := modeEffects_beams s
  unfold paramEffect
  split
  case h_2 => exact beamsSound_expireAll h
  case h_3 => exact beamsSound_windowless h
  all_goals exact beamsSound_of_eq h (by simp [clampDemands, *])

theorem beamsSound_paramWrite {s : State} (body : List Byte) (h : BeamsSound s) :
    BeamsSound (paramWrite body s).state := by
  obtain hs | ⟨id, v, hs⟩ := paramWrite_state body s <;> rw [hs]
  · exact h
  · exact beamsSound_paramEffect id s.params (beamsSound_of_eq h rfl)

/-- The table after a reset or a run clear: every entry UNSEEN (R22). -/
theorem beamsSound_of_resetBeams {t : State} (ht : t.beams = resetBeams) : BeamsSound t := by
  have hb (c : BeamCode) : beam t c = resetBeam := by
    rw [beam, ht]
    cases c <;> rfl
  refine ⟨fun c => ?_, fun c d hc => ?_⟩
  · rw [hb]
    exact (beamSound_unsighted_iff (Or.inl rfl)).2 ⟨rfl, rfl⟩
  · rw [hb] at hc
    simp [isRef, resetBeam] at hc

theorem beamsSound_masterReset (s : State) : BeamsSound (masterReset s) := by
  rw [masterReset_eq]
  exact beamsSound_of_resetBeams rfl

theorem beamsSound_departU {s : State} (h : BeamsSound s) : BeamsSound (departU s) := by
  unfold departU afterDeparture
  split <;> [exact h; split]
  · exact beamsSound_masterReset _
  · exact beamsSound_of_eq h

/-! ## Requests that leave the beam table alone -/

theorem takeLoadEntry_beams (r : Request) (s : State) : (takeLoadEntry r s).beams = s.beams := by
  unfold takeLoadEntry answerRequest
  split <;> [simp [refuse]; split]
  · simp [refuse]
  · obtain ⟨-, -, -, hb⟩ := sameCore_loadEntry (by assumption) (by assumption) (forwardRequest s.node codeLoadEntry r s)
    simp [hb]

theorem openRunRequest_beams (body : List Byte) (s : State) : (openRunRequest body s).state.beams = s.beams := by
  obtain hr | ⟨start, g, discard, -, -, -, hr⟩ := openRunRequest_state body s <;> rw [hr]
  simp [openRun]

theorem closeRun_beams (s : State) : (closeRun s).state.beams = s.beams := by
  unfold closeRun
  split <;> simp [done, refuse, endRun]

theorem setDepthRequest_beams (body : List Byte) (s : State) : (setDepthRequest body s).state.beams = s.beams := by
  unfold setDepthRequest setDepth
  repeat' split
  all_goals rfl

theorem takeModeAuto_beams (body : List Byte) (s : State) : (takeModeAuto body s).state.beams = s.beams := by
  unfold takeModeAuto setModeAuto
  split <;> [split; skip] <;> simp [done, refuse]

theorem takeModeManual_beams (body : List Byte) (s : State) : (takeModeManual body s).state.beams = s.beams := by
  unfold takeModeManual setModeManual
  split <;> [split; skip] <;> simp [done, refuse]

theorem resume_beams (s : State) : (resume s).state.beams = s.beams := by
  unfold resume
  split <;> simp [done, refuse]

theorem clearTrip_beams (s : State) : (clearTrip s).state.beams = s.beams := by
  unfold clearTrip
  split <;> simp [done, refuse]

theorem testStart_beams (body : List Byte) (s : State) : (testStart body s).state.beams = s.beams := by
  unfold testStart
  repeat' split
  all_goals simp [done, refuse, startTest]

theorem testAbort_beams (s : State) : (testAbort s).state.beams = s.beams := by
  unfold testAbort
  split <;> simp [done, refuse]

theorem testApply_beams (s : State) : (testApply s).state.beams = s.beams := by
  obtain hs | ⟨d, i, m, -, -, -, hs⟩ := testApply_state s <;> rw [hs]
  cases d <;> rfl

theorem takeManual_beams (f : Arrival) (s : State) : (takeManual f s).beams = s.beams := by
  unfold takeManual gateManual override
  repeat' split
  all_goals simp

theorem takeTiltFrame_beams (f : Arrival) (s : State) : (takeTiltFrame f s).beams = s.beams := by
  unfold takeTiltFrame
  split <;> simp

theorem passUnclassified_beams (p : Port) (f : CanFrame) (s : State) : (passUnclassified p f s).beams = s.beams := by
  unfold passUnclassified
  split <;> simp

/-! ## The step -/

/-- A request keeps the beam table sound where its rule does (R175). -/
theorem beamsSound_answerRequest {code : Byte} {n : Nat} {r : Request} {act : List Byte → State → Answer} {s : State}
    (h : BeamsSound s) (hact : ∀ body t, BeamsSound t → BeamsSound (act body t).state) :
    BeamsSound (answerRequest code n r act s) :=
  answerRequest_keeps beamsSound_besideQueues hact h

/-- A request whose rule leaves the beam table alone keeps it sound. -/
theorem beamsSound_quietRequest {code : Byte} {n : Nat} {r : Request} {act : List Byte → State → Answer} {s : State}
    (h : BeamsSound s) (hact : ∀ body t, (act body t).state.beams = t.beams) :
    BeamsSound (answerRequest code n r act s) :=
  beamsSound_answerRequest h fun body t ht => beamsSound_of_eq ht (hact body t)

theorem SameCore.beams {s t : State} (h : SameCore s t) : t.beams = s.beams := by
  obtain ⟨-, -, -, hb⟩ := h
  exact hb

theorem SameStore.beams {s t : State} (h : SameStore s t) : t.beams = s.beams := by
  obtain ⟨hc, -⟩ := h
  exact hc.beams

theorem beamsSound_exec {s : State} (c : Instr) (h : BeamsSound s) : Yields BeamsSound (exec c s) := by
  cases c with
  | powerOn straps =>
    show BeamsSound (powerOn straps s)
    rw [powerOn_eq]
    exact beamsSound_of_resetBeams rfl
  | strike f => exact beamsSound_takeStrike f h
  | tilt f => exact beamsSound_of_eq h (takeTiltFrame_beams f s)
  | sync f => exact beamsSound_of_eq (t := takeSync (forwardTaken .d clsSync f s)) h
  | manualValve f => exact beamsSound_of_eq h (takeManual_beams f s)
  | forwardedFrame p id format data => exact beamsSound_of_eq (t := forwardByTable p id _ s) h
  | unclassifiedFrame p f => exact beamsSound_of_eq h (passUnclassified_beams p f s)
  | mgmtReqShortHeader prio src tag format byte => exact beamsSound_of_eq (t := dropMalformed s) h
  | unknownRequest code r => exact refusal_keeps beamsSound_besideQueues code r .unknown h
  | identify broadcast r => exact identify_keeps beamsSound_besideQueues broadcast r h
  | snapshot r => exact beamsSound_quietRequest h fun _ t => (sameStore_snapshot t).beams
  | reset r => exact takeReset_keeps beamsSound_besideQueues beamsSound_masterReset r h
  | clearRun r => exact beamsSound_answerRequest h fun _ t _ => beamsSound_of_resetBeams rfl
  | paramRead r => exact beamsSound_quietRequest h fun body t => (sameStore_paramRead body t).beams
  | paramWrite r => exact beamsSound_answerRequest h fun body t ht => beamsSound_paramWrite body ht
  | loadBegin r => exact beamsSound_quietRequest h fun body t => (sameCore_loadBegin body t).beams
  | loadEntry r => exact beamsSound_of_eq h (takeLoadEntry_beams r s)
  | loadCommit r => exact beamsSound_quietRequest h fun body t => (sameCore_loadCommit body t).beams
  | loadCancel r => exact beamsSound_quietRequest h fun body t => (sameCore_loadCancel body t).beams
  | readEntry r => exact beamsSound_quietRequest h fun body t => (sameStore_readEntry body t).beams
  | openRun r => exact beamsSound_quietRequest h openRunRequest_beams
  | closeRun r => exact beamsSound_quietRequest h fun _ => closeRun_beams
  | bench r => exact beamsSound_answerRequest h fun body t ht => beamsSound_bench body ht
  | setDepth r => exact beamsSound_quietRequest h setDepthRequest_beams
  | setModeAuto r => exact beamsSound_quietRequest h takeModeAuto_beams
  | setModeManual r => exact beamsSound_quietRequest h takeModeManual_beams
  | resume r => exact beamsSound_quietRequest h fun _ => resume_beams
  | clearTrip r => exact beamsSound_quietRequest h fun _ => clearTrip_beams
  | handover r => exact beamsSound_answerRequest h fun body t ht => beamsSound_handover body ht
  | adopt r => exact beamsSound_answerRequest h fun body t ht => beamsSound_adopt body ht
  | testStart r => exact beamsSound_quietRequest h testStart_beams
  | testAbort r => exact beamsSound_quietRequest h fun _ => testAbort_beams
  | testResult r => exact beamsSound_quietRequest h fun _ _ => rfl
  | testApply r => exact beamsSound_quietRequest h fun _ => testApply_beams
  | fwdWrite r => exact beamsSound_quietRequest h fun body t => (sameStore_fwdWrite body t).beams
  | fwdRead r => exact beamsSound_quietRequest h fun body t => (sameStore_fwdRead body t).beams
  | traceRead r => exact beamsSound_quietRequest h fun _ t => (sameStore_traceRead t).beams
  | traceMark r => exact beamsSound_quietRequest h fun _ t => (sameStore_burst t _).beams
  | traceUnmark r => exact beamsSound_quietRequest h fun _ t => (sameStore_burst t _).beams
  | traceRewind r => exact beamsSound_quietRequest h fun _ t => (sameStore_traceRewind t).beams
  | traceGate r => exact beamsSound_quietRequest h fun body t => (sameStore_traceGate body t).beams
  | eventRead r => exact beamsSound_quietRequest h fun _ _ => rfl
  | maskWrite r => exact beamsSound_quietRequest h fun body t => (sameStore_maskWrite body t).beams
  | countersRead r => exact beamsSound_quietRequest h fun _ _ => rfl
  | countersClear r => exact beamsSound_quietRequest h fun _ _ => rfl
  | portUFrameDeparture => exact beamsSound_departU h
  | arbiterTakesFrame => exact beamsSound_of_eq (t := { s with portD := arbiterTakes s.portD }) h
  | lineLevelChange l high => exact beamsSound_of_eq h (lineLevelChange_beams l high s)
  | acceptedOdoEdge => exact beamsSound_of_eq h (filterExpiry_beams .odo s)
  | acceptedDirChange => exact beamsSound_of_eq h (filterExpiry_beams .dir s)
  | acceptedDigChange => exact beamsSound_of_eq h (filterExpiry_beams .dig s)
  | stopAcceptedActive =>
    refine beamsSound_of_eq (t := if s.lines.stop.active then s else filterExpiry .stop s) h ?_
    split <;> simp
  | stopRelease =>
    refine beamsSound_of_eq (t := if s.lines.stop.active then filterExpiry .stop s else s) h ?_
    split <;> simp
  | strikeTimeout c => exact beamsSound_strikeTimeout c h
  | referenceTimeout => exact beamsSound_referenceTimeout h
  | fadingTimeout => exact beamsSound_fadingTimeout h
  | tiltExpiry => exact beamsSound_of_eq (t := tiltExpiry s) h
  | outputTick => exact beamsSound_of_eq (t := outputTick s) h
  | syncTimeout => exact beamsSound_of_eq (t := syncTimeout s) h
  | holdDistanceExpiry =>
    refine beamsSound_of_eq (t := if holdDistanceDue s then filterExpiry .odo s else s) h ?_
    split <;> simp
  | dwellClearMoment => exact beamsSound_of_eq (t := firstStep s) h
  | stepTimerExpiry => exact beamsSound_of_eq (t := stepTimerExpiry s) h
  | noBeamTimeout => exact beamsSound_of_eq (t := noBeamTimeout s) h

theorem step_keeps_beamsSound {s t : State} (h : BeamsSound s) (hst : step s = .next t) : BeamsSound t :=
  step_keeps (fun c _ hs => beamsSound_exec c hs) (fun _ _ _ _ hs => beamsSound_of_eq hs rfl) h hst

end Sys2Proof.Machine

namespace Sys2Proof.Scope

open Machine

/-- Settles O7: every command keeps the beam table sound, and a step is one command or the idle step. -/
theorem stepKeepsOneReference : Obligations.StepKeepsOneReference := fun _ _ h hst => step_keeps_beamsSound h hst

end Sys2Proof.Scope
end

section
/-! The expiries of the reference (R26, R28, R30, R36, R84 to R86, R136; log 3, log 10, log 40). -/

namespace Sys2Proof.Machine

/-- The timeout of a reference in a known state (R26, R28). -/
theorem refTimeoutDue_of_reference {s : State} {c : BeamCode} {st : BeamState} (hc : reference s = some c)
    (hst : (beam s c).state = st) : refTimeoutDue st s = true ↔ strikeExpired c s := by
  simp [refTimeoutDue_iff, hc, hst]

/-- With no entry in a state, no timeout of the reference is due there (log 3). -/
theorem refTimeoutDue_eq_false {s : State} {st : BeamState} (h : ∀ d, (beam s d).state ≠ st) :
    refTimeoutDue st s = false := by
  simp [Bool.eq_false_iff, refTimeoutDue_iff, h]

theorem referenceTimeout_eq {s : State} {c : BeamCode} (hc : reference s = some c) :
    referenceTimeout s = if refTimeoutDue .reference s then fadeReference c s else s := by
  simp only [referenceTimeout, hc]

theorem fadingTimeout_eq {s : State} {c : BeamCode} (hc : reference s = some c) :
    fadingTimeout s = if refTimeoutDue .fading s then loseReference c s else s := by
  simp only [fadingTimeout, hc]

theorem referenceTimeout_of_not_due {s : State} (h : refTimeoutDue .reference s = false) : referenceTimeout s = s := by
  unfold referenceTimeout
  split <;> simp [h]

theorem fadingTimeout_of_not_due {s : State} (h : refTimeoutDue .fading s = false) : fadingTimeout s = s := by
  unfold fadingTimeout
  split <;> simp [h]

/-- AUTO to HOLD (R76, R84). -/
theorem reportFading_of_auto {s : State} (c : BeamCode) (h : s.ctl.state = .auto) : reportFading c s =
    latch .holdEntered (some c) s.chain.s (writeTravel ⟨s.params.lHold, .hold⟩ (writeDepth .neutral
      { s with chain := { s.chain with dH := 0 }, ctl := { s.ctl with state := .hold, offColumn := false } })) := by
  simp [reportFading, h, latchHere, enterHold, setState]

theorem reportFading_of_not_auto {s : State} (c : BeamCode) (h : s.ctl.state ≠ .auto) : reportFading c s = s :=
  if_neg h

/-- HOLD to AUTO (R85). -/
theorem reportRecovered_of_hold {s : State} (h : s.ctl.state = .hold) : reportRecovered s =
    discardManualValve { s with ctl := { s.ctl with state := .auto, memory := 0, offColumn := false } } := by
  simp [reportRecovered, h, enterAuto, setState, setMemory]

theorem reportRecovered_of_not_hold {s : State} (h : s.ctl.state ≠ .hold) : reportRecovered s = s := if_neg h

theorem reportSuspend_of_not_hold {s : State} (h : s.ctl.state ≠ .hold) : reportSuspend s = s := if_neg h

/-- The table and the demand memory after the loss of the reference, before any handover (R28, R30). -/
def referenceLost (c : BeamCode) (s : State) : State := referenceChanged (loseBeam c s)

@[simp] theorem beam_referenceLost (c d : BeamCode) (s : State) : beam (referenceLost c s) d =
    { (if d = c then lostEntry (beam s c) else beam s d) with window := [] } := by
  simp [referenceLost]

@[simp] theorem referenceLost_frame (c : BeamCode) (s : State) : (referenceLost c s).now = s.now ∧
    (referenceLost c s).params = s.params ∧ (referenceLost c s).chain = s.chain := by
  simp [referenceLost]

theorem reference_referenceLost {s : State} {c : BeamCode} (hs : BeamsSound s) (hc : isRef (beam s c) = true) :
    reference (referenceLost c s) = none := by
  refine reference_eq_none fun d => ?_
  rw [isRef_of_state (e := beam (loseBeam c s) d) (by simp [referenceLost])]
  exact not_isRef_loseBeam hs hc d

/-- The loss of a FADING entry makes none ESTABLISHED and loses none of those (R28). -/
theorem established_referenceLost {s : State} {c : BeamCode} (hf : (beam s c).state = .fading) (d : BeamCode) :
    (beam (referenceLost c s) d).state = .established ↔ (beam s d).state = .established := by
  by_cases hd : d = c
  · simp [hd, hf, lostEntry]
  · simp [hd]

/-- The age of an ESTABLISHED entry's accepted strike, for the choice of R36. -/
theorem acceptedAge_referenceLost {s : State} {c d : BeamCode} (hs : BeamsSound s) (hf : (beam s c).state = .fading)
    (hd : (beam s d).state = .established) : acceptedAge (beam (referenceLost c s) d) (referenceLost c s) =
      ((beam s d).accepted.map (fun h => age s.now.ms h.time)).getD 0 := by
  have hdc : d ≠ c := by
    rintro rfl
    simp [hf] at hd
  obtain ⟨h, hh⟩ := Option.isSome_iff_exists.1 ((hs.entry d).height (by tauto))
  simp [acceptedAge, measuredAge, hdc, hh]

/-- The loss of the reference with no beam to take over (R28, R36, R86). -/
theorem loseReference_of_none {c : BeamCode} {s : State}
    (h : s.params.autoHandover ≠ 1 ∨ latestEstablished (referenceLost c s) = none) :
    loseReference c s = reportSuspend (referenceLost c s) := by
  have hlost : referenceChanged (loseBeam c s) = referenceLost c s := rfl
  obtain h | h := h <;> simp [loseReference, hlost, h]

/-- The loss of the reference with the automatic handover (R28, R36, R85). -/
theorem loseReference_of_some {c y : BeamCode} {s : State} (ha : s.params.autoHandover = 1)
    (h : latestEstablished (referenceLost c s) = some y) :
    loseReference c s = reportRecovered (takeOver y (referenceLost c s)) := by
  have hlost : referenceChanged (loseBeam c s) = referenceLost c s := rfl
  simp [loseReference, hlost, ha, h]

end Sys2Proof.Machine

namespace Sys2Proof.Scope

open Machine

/-- Settles O37: the entry in REFERENCE of a sound table is the reference, and its fading is reported in AUTO alone. -/
theorem referenceTimeout : Obligations.ReferenceTimeout := by
  intro c s hs
  have run : exec .referenceTimeout s = .next (Machine.referenceTimeout s) := rfl
  refine ⟨?_, fun hnone => ?_⟩
  · intro hc e due v
    have href := reference_eq_some hs (Or.inl hc)
    have hdue : refTimeoutDue .reference s = true ↔ due := refTimeoutDue_of_reference href hc
    have hctl : v.ctl = s.ctl ∧ v.chain = s.chain ∧ v.params = s.params := by simp [v]
    have hfade : fadeReference c s = reportFading c v := rfl
    rw [run, referenceTimeout_eq href, hfade]
    by_cases ha : s.ctl.state = .auto
    · rw [reportFading_of_auto c (by rw [hctl.1]; exact ha)]
      simp only [hdue, ha, hctl, if_true]
    · rw [reportFading_of_not_auto c (by rw [hctl.1]; exact ha)]
      simp only [hdue, ha, if_false]
  · rw [run, referenceTimeout_of_not_due (refTimeoutDue_eq_false hnone)]

/-- Settles O38: with the FADING entry lost no entry is the reference, and the choice is made among those that were
ESTABLISHED before. -/
theorem fadingTimeout : Obligations.FadingTimeout := by
  refine ⟨?_, fun s hnone => ?_⟩
  · intro c s hs hf e due lost ended v established ageOf
    have run : exec .fadingTimeout s = .next (Machine.fadingTimeout s) := rfl
    have href := reference_eq_some hs (Or.inr hf)
    have hdue : refTimeoutDue .fading s = true ↔ due := refTimeoutDue_of_reference href hf
    have hv : referenceLost c s = v := by rw [referenceLost, loseBeam_eq]; rfl
    have hframe : v.chain = s.chain := by simp [← hv]
    have hnone : reference v = none := hv ▸ reference_referenceLost hs ((isRef_iff _).2 (Or.inr hf))
    rw [run, fadingTimeout_eq href]
    refine ⟨fun hn => ?_, fun hd hstay => ?_, fun hd ha y hy hbest => ?_⟩
    · rw [if_neg (mt hdue.1 hn)]
    · have hchosen : s.params.autoHandover ≠ 1 ∨ latestEstablished (referenceLost c s) = none :=
        hstay.imp_right fun h => latestEstablished_eq_none fun d => mt (established_referenceLost hf d).1 (h d)
      rw [if_pos (hdue.2 hd), loseReference_of_none hchosen, hv]
      by_cases hh : v.ctl.state = .hold
      · rw [reportSuspend_of_hold hh, suspendedEntered, hnone, hframe, if_pos hh]
      · rw [reportSuspend_of_not_hold hh, if_neg hh]
    · intro w
      have hchosen : latestEstablished (referenceLost c s) = some y := by
        refine latestEstablished_eq_some ((established_referenceLost hf y).2 hy) fun d he hdy => ?_
        have he := (established_referenceLost hf d).1 he
        rw [acceptedAge_referenceLost hs hf hy, acceptedAge_referenceLost hs hf he]
        exact hbest d he hdy
      have hw : takeOver y v = w := by rw [takeOver, latchHere, setBeam_chain, hframe]
      have hctl : w.ctl = v.ctl := by simp [w]
      rw [if_pos (hdue.2 hd), loseReference_of_some ha hchosen, hv, hw]
      by_cases hh : v.ctl.state = .hold
      · rw [reportRecovered_of_hold (by rw [hctl]; exact hh), hctl, if_pos hh]
      · rw [reportRecovered_of_not_hold (by rw [hctl]; exact hh), if_neg hh]
  · have run : exec .fadingTimeout s = .next (Machine.fadingTimeout s) := rfl
    rw [run, fadingTimeout_of_not_due (refTimeoutDue_eq_false hnone)]

end Sys2Proof.Scope
end

section
/-! The state after reset meets the invariants (R21, R43, R62, R66, R96, R147, R163, R199). -/

namespace Sys2Proof.Machine

theorem testSound_reset : TestSound State.reset := ⟨by decide, by decide, fun _ => rfl⟩

theorem bounded_reset : Bounded State.reset :=
  ⟨by decide, by decide, by decide, by constructor <;> decide, by decide⟩

theorem chainSound_reset : ChainSound State.reset := by constructor <;> decide

/-- Every default lies in its parameter's range (R199). -/
theorem paramsInRange_defaultParams : ParamsInRange defaultParams := by
  refine ⟨fun id lo hi v hk hv => ?_, by decide⟩
  unfold paramKind at hk
  split at hk <;> cases hk <;> cases hv <;> decide

theorem channelsSound_reset : ChannelsSound State.reset :=
  ⟨testSound_reset, by decide, by decide, by decide, by decide⟩

theorem demandBounded_reset : DemandBounded State.reset := ⟨by decide, by decide, fun _ hw => nomatch hw⟩

theorem traceSound_reset : TraceSound State.reset := ⟨by decide, rfl, rfl⟩

theorem manualGated_reset : ManualGated State.reset :=
  ⟨testSound_reset, fun _ hc => (nomatch hc), fun hs _ => absurd rfl hs⟩

end Sys2Proof.Machine

namespace Sys2Proof.Scope

open Machine

/-- Settles O4: each invariant of the state after reset, by the values of its block. -/
theorem resetIsSound : Obligations.ResetIsSound :=
  ⟨bounded_reset, chainSound_reset, paramsInRange_defaultParams, beamsSound_of_resetBeams rfl,
    controlSound_of_reset rfl rfl rfl, channelsSound_reset, demandBounded_reset, tablesSound_of_reset rfl rfl,
    traceSound_reset, manualGated_reset⟩

end Sys2Proof.Scope
end

section
/-! The beam table's requests HANDOVER and ADOPT (R37, R38). -/

namespace Sys2Proof.Machine

theorem clampOffset_eq (v : Int) :
    clampInt (-6400) 6400 v = if v < -6400 then -6400 else if 6400 < v then 6400 else v := rfl

theorem handover_of_range {b : Byte} (h : 3 < b.toNat) (s : State) : handover [b] s = refuse .range s := by
  simp [handover, beamOfByte_eq_none h]

theorem handover_of_beam (c : BeamCode) (s : State) : handover [beamByte c] s =
    if (beam s c).state = .established then done [] (handoverTo c s) else refuse .state s := by
  simp [handover]

/-- A handover to an ESTABLISHED beam, in the statement's words (R30, R37, R85). -/
theorem handoverTo_eq {s : State} {c : BeamCode} (h : (beam s c).state = .established) : handoverTo c s =
    let stood := mapBeams (fun e => if isRef e = true then { e with state := .established } else e) s
    let v := latch .handoverDone (some c) s.chain.s (setBeam c { beam s c with state := .reference, fade := none } stood)
    let w := setMemory 0 (mapBeams (fun e => { e with window := [] }) v)
    if s.ctl.state = .hold then autoEntered w else w := by
  have hc : standDown (beam s c) = beam s c := by simp [standDown, isRef, h]
  have hstand : standDown = fun e => if isRef e = true then { e with state := .established } else e := rfl
  simp only [handoverTo, takeOver, latchHere, beam_mapBeams, hc, reportRecovered, referenceChanged, enterAuto_eq]
  simp [hstand, setMemory]

theorem adoptBeam_of_range {b : Byte} (h : 3 < b.toNat) (o : Int) (s : State) : adoptBeam b o s = refuse .range s := by
  simp [adoptBeam, beamOfByte_eq_none h]

/-- ADOPT of a beam (R38). -/
theorem adoptBeam_of_beam (c : BeamCode) (o : Int) (s : State) : adoptBeam (beamByte c) o s =
    let v := clampInt (-6400) 6400 o
    if s.run.isOpen = false ∨ s.run.benched = false ∨ (beam s c).state ≠ .tracking then refuse .state s
    else ⟨if v = o then .ok else .clamped, [],
      setBeam c { beam s c with state := .established, offset := some v, window := [] } s⟩ := by
  simp only [adoptBeam, beamOfByte_beamByte]
  by_cases hrun : s.run.isOpen = false ∨ s.run.benched = false
  · rw [if_pos hrun, if_pos (by tauto)]
  · rw [if_neg hrun]
    by_cases ht : (beam s c).state ≠ .tracking
    · rw [if_pos ht, if_pos (by tauto)]
    · rw [if_neg ht]
      exact (if_neg (by tauto)).symm

end Sys2Proof.Machine

namespace Sys2Proof.Scope

open Machine

/-- Settles O47: each request by the beam its byte names, and the handover as its transitions spell it. -/
theorem handoverAndAdopt : Obligations.HandoverAndAdopt := by
  refine fun r s b => ⟨fun hbody => ?_, fun o0 o1 o2 o3 hbody => ?_⟩
  · have run : exec (.handover r) s = .next (answerRequest codeHandover 1 r handover s) := rfl
    have hsends {act : State → Answer} (h : ∀ t, SameButQueues s t → handover [b] t = act t) :
        exec (.handover r) s = answered 0x38 r s act :=
      run.trans ((next_answerRequest 1 hbody rfl).trans (answered_ext h))
    refine ⟨fun hb => hsends fun t _ => handover_of_range hb t, ?_⟩
    rintro c rfl
    refine ⟨fun hc => hsends ?_, fun hc => hsends ?_⟩
    · rintro t ⟨-, -, -, -, -, hbeams, -⟩
      rw [handover_of_beam, beam_congr hbeams, if_neg hc]
    · rintro t ⟨-, -, -, -, hchain, hbeams, -, -, -, hctl, -⟩
      have ht : (beam t c).state = .established := by rwa [beam_congr hbeams]
      rw [handover_of_beam, if_pos ht, handoverTo_eq ht, beam_congr hbeams, hchain, hctl]
      rfl
  · intro v o
    have run : exec (.adopt r) s = .next (answerRequest codeAdopt 5 r adopt s) := rfl
    have hsends {act : State → Answer} (h : ∀ t, SameButQueues s t → adoptBeam b v t = act t) :
        exec (.adopt r) s = answered 0x39 r s act :=
      run.trans ((next_answerRequest 5 hbody rfl).trans (answered_ext h))
    refine ⟨fun hb => hsends fun t _ => adoptBeam_of_range hb v t, ?_⟩
    rintro c rfl
    refine hsends ?_
    rintro t ⟨-, -, -, -, -, hbeams, -, -, hrun, -⟩
    rw [adoptBeam_of_beam, clampOffset_eq, beam_congr hbeams, hrun]

end Sys2Proof.Scope
end

section
/-! CLEAR_RUN (R22, R51, R66, R95, R138, R156, R187; log 14, log 42). -/

namespace Sys2Proof.Machine

/-- A state whose run has ended, with a pending takeover made (R51, R95). -/
def runEnded (x : State) : State :=
  { if x.store.takeover.isSome then swapped x else x with
    run := { x.run with isOpen := false, benched := false, dSet := 0 }
    ctl := { x.ctl with prior := none, memory := 0 } }

/-- The steps of a run clear between the end of the test and the control state (R51, R95). -/
theorem runEnded_eq (x : State) : setMemory 0 (endRun (finishTakeover (clearPrior x))) = runEnded x := by
  have htake : finishTakeover (clearPrior x) =
      { if x.store.takeover.isSome then swapped x else x with ctl := { x.ctl with prior := none } } := by
    show (if x.store.takeover.isSome then swapped (clearPrior x) else clearPrior x) = _
    split
    · exact swapped_with_ctl _ x
    · rfl
  have hrun : (if x.store.takeover.isSome then swapped x else x).run = x.run := by
    rw [← show finishTakeover x = if x.store.takeover.isSome then swapped x else x from rfl]
    simp
  rw [htake, endRun, hrun]
  rfl

@[simp] theorem runEnded_trace (x : State) : (runEnded x).trace = x.trace := by
  rw [← runEnded_eq]
  simp

/-- The control state of a run clear: TRIPPED stays, any other becomes STANDBY with its entries (R95, log 14). -/
theorem clearControl_runEnded (x : State) : clearControl (runEnded x) =
    if x.ctl.state = .tripped then runEnded x else released .standby (runEnded x) := by
  unfold clearControl
  split
  · exact (if_pos (by assumption)).symm
  · rw [releaseControl_eq (by decide)]
    exact (if_neg (by assumption)).symm

/-- The run clear after the end of a running test (R22, R66, R95, R103, R156). -/
theorem clearRun_eq (s : State) : clearRun s =
    let x := closeRunningTest .request s
    let c := if x.ctl.state = .tripped then runEnded x else released .standby (runEnded x)
    { c with
      beams := resetBeams, chain := ⟨0, 0, 0, 0, 0⟩
      ctl := { c.ctl with offColumn := false }
      trace := ⟨0, 0, none, 0, [], x.trace.gateOpen⟩ } := by
  have htrace : (clearControl (runEnded (closeRunningTest .request s))).trace = (closeRunningTest .request s).trace := by
    unfold clearControl
    split <;> simp
  unfold clearRun
  dsimp only
  rw [runEnded_eq, clearBlocks, clearedTrace, htrace, clearControl_runEnded]
  rfl

theorem clearRun_number (s : State) : (clearRun s).run.number = s.run.number := by
  unfold clearRun clearBlocks clearControl
  dsimp only
  split <;> simp [endRun]

end Sys2Proof.Machine

namespace Sys2Proof.Scope

open Machine

/-- Settles O57: the test's end by its phase, and the clear of the run and of the blocks on what it leaves. -/
theorem clearRun : Obligations.ClearRun := by
  intro r s hbody cleared ended clears
  have run : exec (.clearRun r) s = .next (answerRequest codeClearRun 0 r (fun _ => takeClearRun) s) := rfl
  have hclears {f : State → State} (hf : ∀ u, SameButQueues s u → closeRunningTest .request u = f u) : clears f := by
    refine run.trans ((next_answerRequest 0 hbody rfl).trans (answered_ext fun u hu => ?_))
    obtain ⟨-, -, -, -, -, -, -, hstore, hrun, hctl, -, -, -, -, htrace, -⟩ := id hu
    have hx := closeRunningTest_frame .request u
    rw [hf u hu] at hx
    have hnumber : runNumberBody (Machine.clearRun u) = bytes2 s.run.number := by
      rw [runNumberBody, clearRun_number, hrun]
    have hclear : Machine.clearRun u = cleared (f u) := by
      rw [clearRun_eq, hf u hu]
      simp only [runEnded, cleared, hx, hstore, hrun, hctl, htrace]
    show done (runNumberBody (Machine.clearRun u)) (Machine.clearRun u) = _
    rw [hnumber, hclear]
    rfl
  have hended {u : State} (hu : SameButQueues s u) (t : TestRun) (i : Option Nat) :
      closeTest .request t i u = ended t i u := by
    obtain ⟨hnow, -, -, -, hchain, hbeams, -⟩ := hu
    rw [closeTest_of_ne (by decide)]
    simp only [ended, hchain, resultOf, beam_congr hbeams, hnow]
  refine ⟨fun hp => hclears ?_, fun t hp => hclears ?_, fun t i m m' hp => hclears ?_⟩
  all_goals
    intro u hu
    obtain ⟨-, -, -, -, -, -, -, -, -, -, -, -, -, htest, -⟩ := id hu
    simp only [closeRunningTest, htest, hp]
  · rfl
  · exact hended hu t none
  · exact hended hu t (some i)

end Sys2Proof.Scope
end

section
/-! BENCH (R16 to R18, R30, R39, R57, R58, R80; log 16, log 28, log 36). -/

namespace Sys2Proof.Machine

/-- BENCH is refused outside MANUAL and SUSPENDED (R80). -/
theorem bench_of_not_free {s : State} (h : ¬ (s.ctl.state = .manual ∨ s.ctl.state = .suspended)) (body : List Byte) :
    bench body s = refuse .state s :=
  if_pos (by tauto)

theorem bench_of_range {s : State} {p b : Byte} (h : s.ctl.state = .manual ∨ s.ctl.state = .suspended)
    (hp : p.getLsbD 0 = true) (hb : 3 < b.toNat) : bench [p, b] s = refuse .range s := by
  have hfree : ¬ (s.ctl.state ≠ .manual ∧ s.ctl.state ≠ .suspended) := by tauto
  simp [bench, hfree, bitOf, hp, beamOfByte_eq_none hb]

theorem bench_of_no_reference {s : State} {p b : Byte} (h : s.ctl.state = .manual ∨ s.ctl.state = .suspended)
    (hp : p.getLsbD 0 = false) (href : reference s = none) : bench [p, b] s = refuse .noData s := by
  have hfree : ¬ (s.ctl.state ≠ .manual ∧ s.ctl.state ≠ .suspended) := by tauto
  have hbit : bitOf p 0 = false := hp
  simp [bench, hfree, hbit, href]

/-- The beam that BENCH names, by its byte or as the reference (R80, R195). -/
theorem bench_of_named {s : State} {p b : Byte} {c : BeamCode} (h : s.ctl.state = .manual ∨ s.ctl.state = .suspended)
    (hc : p.getLsbD 0 = true ∧ b = beamByte c ∨ p.getLsbD 0 = false ∧ reference s = some c) :
    bench [p, b] s = benchNamed c s := by
  have hfree : ¬ (s.ctl.state ≠ .manual ∧ s.ctl.state ≠ .suspended) := by tauto
  obtain ⟨hp, rfl⟩ | ⟨hp, href⟩ := hc
  · simp [bench, hfree, bitOf, hp]
  · have hbit : bitOf p 0 = false := hp
    simp [bench, hfree, hbit, href]

theorem benchable_iff (e : Beam) : benchable e = true ↔
    e.state = .reference ∨ e.state = .fading ∨ e.state = .tracking ∨ e.state = .established := by
  simp [benchable, or_assoc]

theorem benchNamed_of_unsighted {s : State} {c : BeamCode} (h : Unsighted (beam s c)) :
    benchNamed c s = refuse .state s := by
  have : benchable (beam s c) = false := by
    obtain h | h | h := h <;> simp [benchable, h]
  simp [benchNamed, this]

/-- A reference in FADING is refused whatever its age (R39, log 36). -/
theorem benchNamed_of_fading {s : State} {c : BeamCode} (h : (beam s c).state = .fading) :
    benchNamed c s = refuse .noData s := by
  have hb : benchable (beam s c) = true := by simp [benchable, h]
  have hf : takenFresh (beam s c) s = false := by simp [takenFresh, h]
  simp only [benchNamed, hb, hf]
  split <;> [contradiction; split] <;> simp

/-- An entry in TRACKING, ESTABLISHED or REFERENCE: BENCH goes on with the measured depth through it, where one is
present and fresh (R39, R80). -/
theorem benchNamed_of_sighted {s : State} {c : BeamCode}
    (h : (beam s c).state = .tracking ∨ (beam s c).state = .established ∨ (beam s c).state = .reference) :
    benchNamed c s = match depthThrough (beam s c) (benchOffset (beam s c)) s with
      | none => refuse .noData s
      | some d => if freshBeam (beam s c) s then finishBench c d s else refuse .noData s := by
  have hb : benchable (beam s c) = true := by rw [benchable_iff]; tauto
  have hf : takenFresh (beam s c) s = freshBeam (beam s c) s := by
    obtain h | h | h := h <;> simp [takenFresh, h]
  simp only [benchNamed, hb, hf]
  rfl

/-- The measured depth that BENCH forms through an entry (R17, R39). -/
theorem depthThrough_eq {e : Beam} {h : Height} {table : List Int} {s : State} (hh : e.accepted = some h)
    (ht : s.store.tiltTable = some table) (o : Int) :
    depthThrough e o s = some (h.b + o + s.params.mast + correction table s.tilt.theta) := by
  simp [depthThrough, hh, ht]

theorem benchOffset_of_sighted {e : Beam}
    (h : e.state = .tracking ∨ e.state = .established ∨ e.state = .reference) :
    benchOffset e = if e.state = .reference then e.offset.getD 0 else 0 := by
  obtain h | h | h := h <;> simp [benchOffset, isRef, h]

theorem benchNamed_of_no_table {s : State} {c : BeamCode}
    (h : (beam s c).state = .tracking ∨ (beam s c).state = .established ∨ (beam s c).state = .reference)
    (ht : s.store.tiltTable = none) : benchNamed c s = refuse .noData s := by
  have hd : depthThrough (beam s c) (benchOffset (beam s c)) s = none := by
    unfold depthThrough
    rw [ht]
    split <;> simp_all
  rw [benchNamed_of_sighted h, hd]

theorem benchNamed_of_stale {s : State} {c : BeamCode} {x : Height} {table : List Int}
    (h : (beam s c).state = .tracking ∨ (beam s c).state = .established ∨ (beam s c).state = .reference)
    (hx : (beam s c).accepted = some x) (ht : s.store.tiltTable = some table)
    (hage : s.params.strikeTmo < age s.now.ms x.time) : benchNamed c s = refuse .noData s := by
  rw [benchNamed_of_sighted h, depthThrough_eq hx ht]
  exact if_neg (by rw [freshBeam_iff hx]; omega)

theorem benchNamed_of_fresh {s : State} {c : BeamCode} {x : Height} {table : List Int}
    (h : (beam s c).state = .tracking ∨ (beam s c).state = .established ∨ (beam s c).state = .reference)
    (hx : (beam s c).accepted = some x) (ht : s.store.tiltTable = some table)
    (hage : age s.now.ms x.time ≤ s.params.strikeTmo) : benchNamed c s =
      finishBench c (x.b + (if (beam s c).state = .reference then (beam s c).offset.getD 0 else 0) + s.params.mast
        + correction table s.tilt.theta) s := by
  rw [benchNamed_of_sighted h, depthThrough_eq hx ht, benchOffset_of_sighted h]
  exact if_pos ((freshBeam_iff hx).2 hage)

/-- Every other held offset is dropped, and every window emptied (R30, R39). -/
theorem windowless_droppedForBench (e : Beam) : { dropEstablished (dropReference e) with window := [] } =
    if isRef e = true ∨ e.state = .established then { e with state := .tracking, offset := none, window := [] }
    else { e with window := [] } := by
  unfold dropReference
  by_cases hr : isRef e = true
  · simp [hr, dropEstablished]
  · simp [hr, windowless_dropEstablished]

/-- BENCH onto a beam: one that is not the reference becomes it, in the statement's words (R30, R39, log 28). -/
def benchTurned (c : BeamCode) (s : State) : State :=
  if (beam s c).state = .reference then s else setMemory 0
    (setBeam c { beam s c with state := .reference, offset := some 0, window := [] }
      (mapBeams (fun x => if isRef x = true ∨ x.state = .established then
        { x with state := .tracking, offset := none, window := [] } else { x with window := [] }) s))

@[simp] theorem benchTurned_run (c : BeamCode) (s : State) : (benchTurned c s).run = s.run := by
  unfold benchTurned
  split <;> simp

theorem benchTurned_eq {s : State} {c : BeamCode}
    (h : (beam s c).state = .tracking ∨ (beam s c).state = .established ∨ (beam s c).state = .reference) :
    benchTurned c s = if isRef (beam s c) then s else benchBeam c s := by
  have turns (h : (beam s c).state = .tracking ∨ (beam s c).state = .established) : benchTurned c s = benchBeam c s := by
    have hnot : (beam s c).state ≠ .reference := by obtain h | h := h <;> simp [h]
    have hc : { dropEstablished (dropReference (beam s c)) with state := .reference, offset := some 0, window := [] } =
        { beam s c with state := .reference, offset := some 0, window := [] } := by
      obtain h | h := h <;> simp [dropReference, dropEstablished, isRef, h]
    simp only [benchTurned, if_neg hnot, benchBeam, referenceChanged, mapBeams_setBeam, mapBeams_mapBeams, beam_mapBeams,
      hc, windowless_droppedForBench]
  obtain h | h | h := h
  · simp [turns (Or.inl h), isRef, h]
  · simp [turns (Or.inr h), isRef, h]
  · simp [benchTurned, isRef, h]

/-- A depth setting outside its range is refused, with the target's latch standing (R57, R80). -/
theorem finishBench_of_range {s : State} {h target : Int} (c : BeamCode)
    (ht : targetAt s.store.active s.chain.s = some target) (hd : h - target < 0 ∨ 60000 < h - target) :
    finishBench c h s = refuse .range (noteTarget s.chain.s s) := by
  simp only [finishBench, ht, if_pos hd]

/-- The end of BENCH: D_set fixed, the run benched, and the beam the reference (R39, R80). -/
theorem finishBench_of_depth {s : State} {h target : Int} {c : BeamCode}
    (ht : targetAt s.store.active s.chain.s = some target) (h0 : 0 ≤ h - target) (h1 : h - target ≤ 60000)
    (hc : (beam s c).state = .tracking ∨ (beam s c).state = .established ∨ (beam s c).state = .reference) :
    finishBench c h s =
      done (signed4 (h - target)) (setDepthSetting (h - target) (benchTurned c (noteTarget s.chain.s s))) := by
  have hbeam : beam (noteTarget s.chain.s s) = beam s := beam_congr (by simp)
  have hd : ¬ (h - target < 0 ∨ 60000 < h - target) := by omega
  rw [benchTurned_eq (by rwa [hbeam])]
  simp only [finishBench, ht, if_neg hd]

end Sys2Proof.Machine

namespace Sys2Proof.Scope

open Machine

/-- Settles O44: the checks in their order on the beam that is named, and the end of BENCH on the depth through it. -/
theorem benchFixesDepth : Obligations.BenchFixesDepth := by
  intro r s p b hbody named sends free
  have run : exec (.bench r) s = .next (answerRequest codeBench 2 r bench s) := rfl
  have hsends {act : State → Answer} (h : ∀ t, SameButQueues s t → bench [p, b] t = act t) : sends act :=
    run.trans ((next_answerRequest 2 hbody rfl).trans (answered_ext h))
  have hfree {t : State} (ht : SameButQueues s t) (h : free) : t.ctl.state = .manual ∨ t.ctl.state = .suspended := by
    obtain ⟨-, -, -, -, -, -, -, -, -, hctl, -⟩ := ht
    rwa [hctl]
  have hbeam {t : State} (ht : SameButQueues s t) : beam t = beam s := by
    obtain ⟨-, -, -, -, -, hbeams, -⟩ := ht
    exact beam_congr hbeams
  have href {t : State} (ht : SameButQueues s t) : reference t = reference s := by
    obtain ⟨-, -, -, -, -, hbeams, -⟩ := ht
    exact reference_congr hbeams
  refine ⟨fun hn => hsends ?_, fun h hp hb => hsends ?_, fun h hp hnone => hsends ?_, fun hs h c hc => ?_⟩
  · rintro t ⟨-, -, -, -, -, -, -, -, -, hctl, -⟩
    exact bench_of_not_free (by rwa [hctl]) _
  · exact fun t ht => bench_of_range (hfree ht h) hp hb
  · exact fun t ht => bench_of_no_reference (hfree ht h) hp ((href ht).trans (reference_eq_none hnone))
  · have hnamed {act : State → Answer} (ha : ∀ t, SameButQueues s t → benchNamed c t = act t) : sends act := by
      refine hsends fun t ht => ?_
      rw [← ha t ht]
      refine bench_of_named (hfree ht h) (hc.imp_right fun ⟨hp, hr⟩ => ⟨hp, ?_⟩)
      rw [href ht]
      exact reference_eq_some hs ((isRef_iff _).1 hr)
    intro e
    refine ⟨fun hst => hnamed fun t ht => ?_, fun hst => hnamed fun t ht => ?_, fun hst => ⟨fun hn => hnamed ?_, ?_⟩⟩
    · exact benchNamed_of_unsighted (by rw [hbeam ht, Unsighted]; tauto)
    · exact benchNamed_of_fading (by rwa [hbeam ht])
    · intro t ht
      obtain ⟨-, -, -, -, -, -, -, hstore, -⟩ := id ht
      exact benchNamed_of_no_table (by rwa [hbeam ht]) (by rwa [hstore])
    · intro x table hx htable depth
      refine ⟨fun hage => hnamed fun t ht => ?_, ?_⟩
      · obtain ⟨hnow, -, hparams, -, -, -, -, hstore, -⟩ := id ht
        exact benchNamed_of_stale (by rwa [hbeam ht]) (by rwa [hbeam ht]) (by rwa [hstore]) (by rwa [hnow, hparams])
      · intro target hage htarget d noted turned
        have hfinish {t : State} (ht : SameButQueues s t) : benchNamed c t = finishBench c depth t ∧
            targetAt t.store.active t.chain.s = some target ∧ noteTarget t.chain.s t = noted t := by
          obtain ⟨hnow, -, hparams, -, hchain, -, htilt, hstore, -⟩ := id ht
          refine ⟨?_, by rwa [hstore, hchain], by rw [noteTarget, hstore, hchain]⟩
          rw [benchNamed_of_fresh (x := x) (table := table) (by rwa [hbeam ht]) (by rwa [hbeam ht]) (by rwa [hstore])
            (by rwa [hnow, hparams]), hbeam ht, hparams, htilt]
        refine ⟨fun hd => hnamed fun t ht => ?_, fun h0 h1 => hnamed fun t ht => ?_⟩
        · obtain ⟨hbench, htar, hnote⟩ := hfinish ht
          rw [hbench, finishBench_of_range c htar hd, hnote]
        · obtain ⟨hbench, htar, hnote⟩ := hfinish ht
          obtain ⟨-, -, -, -, -, -, -, -, hrun, -⟩ := id ht
          have hnoted : beam (noted t) = beam s := by
            rw [← hnote, ← hbeam ht]
            exact beam_congr (by simp)
          have hturned : benchTurned c (noted t) = turned (noted t) := by
            simp only [benchTurned, hnoted, turned, e]
          have hkept : (turned (noted t)).run = s.run := by
            rw [← hturned, benchTurned_run, ← hnote]
            simpa using hrun
          rw [hbench, finishBench_of_depth htar h0 h1 (by rwa [hbeam ht]), hnote, hturned, done, setDepthSetting, hkept]

end Sys2Proof.Scope
end

section
/-! Offset estimation (R32 to R34). -/

namespace Sys2Proof.Machine

/-- An accepted strike of a TRACKING entry is paired (R33). -/
theorem beamTransition_of_tracking {c : BeamCode} {r : StrikeResult} {s : State} {b : Int}
    (hr : r = .accepted b ∨ r = .rebased b) (h : (beam s c).state = .tracking) :
    beamTransition c r s = pairStrike c b s := by
  obtain rfl | rfl := hr <;> simp [beamTransition, h]

/-- The entry in REFERENCE depends on the entries' states alone. -/
theorem steadyReference_states {s t : State} (h : ∀ d, (beam t d).state = (beam s d).state) :
    steadyReference t = steadyReference s := by
  simp [steadyReference, h]

/-- With the reference in FADING, or with none, no sample is taken (R33). -/
theorem pairStrike_of_none {s : State} (h : ∀ x, (beam s x).state ≠ .reference) (c : BeamCode) (b : Int) :
    pairStrike c b s = s := by
  have hnone : steadyReference s = none := by simp [steadyReference, allBeams, h]
  simp [pairStrike, hnone]

/-- A strike of a TRACKING entry against the entry in REFERENCE (R33). -/
theorem pairStrike_eq {s : State} {x : BeamCode} {h : Height} {o : Int} (href : steadyReference s = some x)
    (hh : (beam s x).accepted = some h) (ho : (beam s x).offset = some o) (c : BeamCode) (b : Int) :
    pairStrike c b s = if age s.now.ms h.time ≤ s.params.pair then
      judgeWindow c (setBeam c { beam s c with window := (beam s c).window ++ [h.b + o - b] } s) else s := by
  simp [pairStrike, href, hh, ho]

theorem judgeWindow_of_short {s : State} {c : BeamCode} (h : (beam s c).window.length ≠ s.params.ofsN) :
    judgeWindow c s = s :=
  if_neg h

/-- The spread of a window between its least and its greatest sample (R34). -/
theorem spread_eq {w : List Int} {least most : Int} (hl : least ∈ w) (hm : most ∈ w)
    (hb : ∀ y ∈ w, least ≤ y ∧ y ≤ most) : spread w = most - least := by
  have hmax : w.max? = some most := List.max?_eq_some_iff.2 ⟨hm, fun y hy => (hb y hy).2⟩
  have hmin : w.min? = some least := List.min?_eq_some_iff.2 ⟨hl, fun y hy => (hb y hy).1⟩
  simp [spread, hmax, hmin]

/-- A full window of an entry just written is judged by its spread (R34). -/
theorem judgeWindow_of_full {s : State} {c : BeamCode} {e : Beam} (h : e.window.length = s.params.ofsN) :
    judgeWindow c (setBeam c e s) =
      if spread e.window ≤ s.params.ofsTol then
        latch .offsetEstablished (some c) s.chain.s (setBeam c { e with
          state := .established, offset := some (meanOffset e.window s.params.ofsN), window := [] } s)
      else latch .offsetUnstable (some c) s.chain.s (setBeam c { e with window := [] } s) := by
  simp [judgeWindow, h, latchHere]

end Sys2Proof.Machine

namespace Sys2Proof.Scope

open Machine

/-- Settles O32: the sample is taken against the entry in REFERENCE, and a window it fills is judged by its spread. -/
theorem offsetEstimation : Obligations.OffsetEstimation := by
  intro f s c hi lo n rest hd hp hst b r w hw
  have hstate := state_of_accepted hw
  have htrack : (beam w c).state = .tracking := (hstate c).trans hst
  obtain ⟨hnow, hparams, hchain, -⟩ := frame_of_accepted hw
  have hhandled {z : State} (hz : pairStrike c b w = z) (hne : (beam z c).state ≠ .reference) :
      exec (.strike f) s = .next (handTestStrike c r z) := by
    rw [exec_strike_accepted hd hp hw, beamTransition_of_tracking (result_of_accepted hw) htrack, hz,
      handReferenceStrike_of_not r (Or.inl hne)]
  refine ⟨fun hnone => ?_, fun x h o hs hx hh ho => ?_⟩
  · exact hhandled (pairStrike_of_none (by simpa only [hstate] using hnone) c b) (by simp [htrack])
  · intro window
    have hxc : x ≠ c := by
      rintro rfl
      simp [hst] at hx
    have hbeam : beam w x = beam s x := by simp [beam_of_accepted hw, hxc]
    have hwindow : (beam w c).window ++ [h.b + o - b] = window := by simp [beam_of_accepted hw, window]
    have hpair := pairStrike_eq (s := w) ((steadyReference_states hstate).trans (steadyReference_eq_some hs hx))
      (by rwa [hbeam]) (by rwa [hbeam]) c b
    rw [hnow, hparams, hwindow] at hpair
    refine ⟨fun hage => ?_, fun hage hlen => ?_, fun hage hlen least most hl hm hbounds => ?_⟩
    · exact hhandled (hpair.trans (if_neg (not_le.2 hage))) (by simp [htrack])
    · rw [if_pos hage, judgeWindow_of_short (by simpa [hparams] using hlen)] at hpair
      exact hhandled hpair (by simp [htrack])
    · rw [if_pos hage, judgeWindow_of_full (by rwa [hparams]), spread_eq hl hm hbounds, hparams, hchain] at hpair
      refine hhandled hpair ?_
      split <;> simp [htrack]

end Sys2Proof.Scope
end

section
/-! The base offsets (R46), the segment at a chainage, its design target and its speed cap (R55 to R59). -/

namespace Sys2Proof.Machine

/-! ## Base offsets -/

@[simp] theorem length_offsetsFrom (g : Int) (l : List ProfileEntry) (prev : ProfileEntry) (b : Int) :
    (offsetsFrom g prev b l).length = l.length := by
  induction l generalizing prev b with
  | nil => rfl
  | cons e rest ih => simp [offsetsFrom, ih]

@[simp] theorem length_baseOffsets (g : Int) (l : List ProfileEntry) : (baseOffsets g l).length = l.length := by
  cases l <;> simp [baseOffsets]

theorem baseOffsets_zero {g : Int} {l : List ProfileEntry} {b : Int} (h : (baseOffsets g l)[0]? = some b) : b = 0 := by
  cases l with
  | nil => simp [baseOffsets] at h
  | cons e rest => simpa [baseOffsets] using h.symm

/-- The recursion of R46 from any entry on, whatever the offset it starts from. -/
theorem offsetsFrom_succ (g : Int) (k : Nat) {l : List ProfileEntry} {prev e e' : ProfileEntry} {b₀ b b' : Int}
    (he : (prev :: l)[k]? = some e) (he' : l[k]? = some e')
    (hb : (b₀ :: offsetsFrom g prev b₀ l)[k]? = some b) (hb' : (offsetsFrom g prev b₀ l)[k]? = some b') :
    b' = b + (e.grade - g) * ((e'.start : Int) - e.start) + e'.step.getD 0 * 10000 := by
  induction k generalizing l prev b₀ with
  | zero =>
    cases l with
    | nil => simp at he'
    | cons x rest =>
      simp only [offsetsFrom, List.getElem?_cons_zero, Option.some.injEq] at he he' hb hb'
      subst he he' hb
      exact hb'.symm
  | succ k ih =>
    cases l with
    | nil => simp at he'
    | cons x rest => exact ih he he' hb hb'

/-! ## The segment at a chainage -/

/-- The last element that passes a test is the one after which none does. -/
theorem getLast?_filter_of_boundary {α : Type} {p : α → Bool} {l : List α} {k : Nat} {x : α} (hx : l[k]? = some x)
    (hp : p x = true) (hafter : ∀ y ∈ l.drop (k + 1), p y = false) : (l.filter p).getLast? = some x := by
  obtain ⟨hk, rfl⟩ := List.getElem?_eq_some_iff.1 hx
  have hnone : (l.drop (k + 1)).filter p = [] := by simpa using hafter
  have hfilter : l.filter p = (l.take k).filter p ++ [l[k]] := by
    conv_lhs => rw [← List.take_append_drop k l, List.drop_eq_getElem_cons hk]
    rw [List.filter_append, List.filter_cons_of_pos hp, hnone]
  rw [hfilter, List.getLast?_concat]

/-- From the entry after k on, every start is above a chainage that the next start is above (R43). -/
theorem start_above {l : List ProfileEntry} {k at_ : Nat} (hrise : startsIncrease l = true)
    (hnext : ∀ e', l[k + 1]? = some e' → at_ < e'.start) : ∀ e ∈ l.drop (k + 1), at_ < e.start := by
  have hsorted : (l.drop (k + 1)).Pairwise (fun a b => a.start < b.start) := by
    have hpair := List.isChain_iff_pairwise.1 ((startsIncrease_iff l).1 hrise)
    exact (List.pairwise_map.1 hpair).sublist (List.drop_sublist _ _)
  rw [← List.head?_drop] at hnext
  cases hd : l.drop (k + 1) with
  | nil => simp
  | cons a rest =>
    rw [hd] at hnext hsorted
    have ha : at_ < a.start := hnext a rfl
    simp only [List.forall_mem_cons]
    exact ⟨ha, fun e he => ha.trans (List.rel_of_pairwise_cons hsorted he)⟩

/-- The segment is the entry at or below the chainage whose successor lies above it (R55). -/
theorem segmentAt_of_entry {bank : Bank} {at_ k : Nat} {e : ProfileEntry} {b : Int} (h : BankSound bank)
    (he : bank.entries[k]? = some e) (hb : bank.offsets[k]? = some b) (hle : e.start ≤ at_)
    (hnext : ∀ e', bank.entries[k + 1]? = some e' → at_ < e'.start) : segmentAt bank at_ = some (e, b) := by
  refine getLast?_filter_of_boundary (k := k) (List.getElem?_zip_eq_some.2 ⟨he, hb⟩) (by simpa using hle) ?_
  rintro ⟨x, c⟩ hx
  rw [List.zip_eq_zipWith, List.drop_zipWith, ← List.zip_eq_zipWith] at hx
  simpa using start_above h.rising hnext x (List.of_mem_zip hx).1

/-- A profile that begins at or below a chainage has an entry there whose successor lies above it. -/
theorem exists_boundary (l : List ProfileEntry) {at_ : Nat} {a : ProfileEntry} (ha : a.start ≤ at_) :
    ∃ (k : Nat) (e : ProfileEntry), (a :: l)[k]? = some e ∧ e.start ≤ at_ ∧
      ∀ e', (a :: l)[k + 1]? = some e' → at_ < e'.start := by
  induction l generalizing a with
  | nil => exact ⟨0, a, rfl, ha, by simp⟩
  | cons x rest ih =>
    by_cases hx : x.start ≤ at_
    · obtain ⟨k, e, he⟩ := ih hx
      exact ⟨k + 1, e, he⟩
    · refine ⟨0, a, rfl, ha, fun e' he' => ?_⟩
      obtain rfl : x = e' := by simpa using he'
      exact not_le.1 hx

/-- In a sound bank with entries every chainage has its segment (R43, R55). -/
theorem exists_segment {bank : Bank} (at_ : Nat) (h : BankSound bank) (hne : bank.entries ≠ []) :
    ∃ (k : Nat) (e : ProfileEntry) (b : Int), bank.entries[k]? = some e ∧ bank.offsets[k]? = some b ∧
      e.start ≤ at_ ∧ (∀ e', bank.entries[k + 1]? = some e' → at_ < e'.start) := by
  obtain ⟨a, l, hl⟩ := List.exists_cons_of_ne_nil hne
  have hfirst : a.start = 0 := h.first a (by simp [hl])
  obtain ⟨k, e, he, hle, hnext⟩ := exists_boundary l (at_ := at_) (a := a) (by omega)
  rw [← hl] at he hnext
  have hk : k < bank.offsets.length := by
    rw [h.offsets, length_baseOffsets]
    exact (List.getElem?_eq_some_iff.1 he).1
  exact ⟨k, e, _, he, List.getElem?_eq_getElem hk, hle, hnext⟩

/-! ## The design target -/

theorem targetQuotient_of_segment {bank : Bank} {at_ : Nat} {e : ProfileEntry} {b : Int}
    (h : segmentAt bank at_ = some (e, b)) :
    targetQuotient bank at_ = some (roundDiv (b + (e.grade - bank.basis) * ((at_ : Int) - e.start)) 10000) := by
  simp [targetQuotient, h]

theorem targetAt_of_quotient {bank : Bank} {at_ : Nat} {q : Int} (h : targetQuotient bank at_ = some q) :
    targetAt bank at_ = some (if q < -20000 then -20000 else if 20000 < q then 20000 else q) := by
  simp [targetAt, h, clampInt]

theorem targetSaturates_iff_of_quotient {bank : Bank} {at_ : Nat} {q : Int} (h : targetQuotient bank at_ = some q) :
    targetSaturates bank at_ = true ↔ q < -20000 ∨ 20000 < q := by
  simp [targetSaturates, h]

theorem capAt_of_segment {bank : Bank} {at_ : Nat} {e : ProfileEntry} {b : Int} (h : segmentAt bank at_ = some (e, b)) :
    capAt bank at_ = e.cap := by
  simp [capAt, h]

theorem targetAt_of_empty {bank : Bank} (at_ : Nat) (h : bank.entries = []) : targetAt bank at_ = none := by
  simp [targetAt, targetQuotient, segmentAt, h]

end Sys2Proof.Machine

namespace Sys2Proof.Scope

open Machine

/-- Settles O24: one offset for each entry, the first 0, each next by the recursion. -/
theorem baseOffsetsOfEntries : Obligations.BaseOffsetsOfEntries := by
  refine fun g l => ⟨length_baseOffsets g l, fun b => baseOffsets_zero, fun k e e' b b' he he' hb hb' => ?_⟩
  cases l with
  | nil => simp at he
  | cons x rest => exact offsetsFrom_succ g k he he' hb hb'

/-- Settles O25: the entry at or below the chainage with its successor above it is the last one that the segment's
search keeps, and a bank that starts at 0 has such an entry. -/
theorem designTargetOfSegment : Obligations.DesignTargetOfSegment := by
  refine ⟨?_, fun bank at_ => exists_segment at_, fun bank at_ => targetAt_of_empty at_⟩
  intro bank at_ k e b hsound he hb hle hnext q
  have hseg := segmentAt_of_entry hsound he hb hle hnext
  have hq : targetQuotient bank at_ = some q := targetQuotient_of_segment hseg
  exact ⟨targetAt_of_quotient hq, targetSaturates_iff_of_quotient hq, capAt_of_segment hseg⟩

end Sys2Proof.Scope
end

section
/-! The requests that report (R60, R126, R140, R165, R176, R183, R184, R190). -/

namespace Sys2Proof.Machine

/-! ## PARAM_READ and FWD_READ -/

/-- PARAM_READ: the parameter's value, or RANGE (R176). -/
theorem paramRead_eq (b : Byte) (s : State) : paramRead [b] s =
    ((readParam b.toNat s.params).map (fun v => (⟨.ok, b :: signed4 v, s⟩ : Answer))).getD (refuse .range s) := by
  simp only [paramRead, List.getD_cons_zero]
  cases readParam b.toNat s.params <;> rfl

theorem fwdBody_eq (b : Byte) (e : FwdEntry) : fwdBody b e = [b, flagByte e.inUse,
    if e.ingress = .u then 0 else if e.ingress = .d then 1 else 2, if e.action = .pass then 0 else 1]
    ++ bytes4 e.value.toNat ++ bytes4 e.mask.toNat := by
  have hingress : byte (ingressCode e.ingress) = if e.ingress = .u then 0 else if e.ingress = .d then 1 else 2 := by
    cases e.ingress <;> rfl
  have haction : byte (actionCode e.action) = if e.action = .pass then 0 else 1 := by
    cases e.action <;> rfl
  rw [fwdBody, hingress, haction]

/-- FWD_READ: the entry's fields, or RANGE (R165). -/
theorem fwdRead_eq (b : Byte) (s : State) : fwdRead [b] s =
    ((s.fwd[b.toNat]?).map (fun e => (⟨.ok, [b, flagByte e.inUse,
      if e.ingress = .u then 0 else if e.ingress = .d then 1 else 2, if e.action = .pass then 0 else 1]
      ++ bytes4 e.value.toNat ++ bytes4 e.mask.toNat, s⟩ : Answer))).getD (refuse .range s) := by
  simp only [fwdRead, List.getD_cons_zero, ← fwdBody_eq]
  cases s.fwd[b.toNat]? <;> rfl

/-! ## READ_ENTRY -/

theorem readEntry_unknown {k : Byte} (h : 3 < k.toNat) (i0 i1 : Byte) (s : State) :
    readEntry [k, i0, i1] s = refuse .range s := by
  simp [readEntry, kindOfByte_unknown h]

/-- Of an empty ACTIVE bank there is nothing to read (R60). -/
theorem readProfile_of_empty {s : State} (h : s.store.active.entries = []) (i : Nat) :
    readProfile i s = refuse .noData s := by
  simp [readProfile, h]

theorem readProfile_of_range {s : State} {i : Nat} (h : s.store.active.entries ≠ [])
    (hi : s.store.active.entries.length ≤ i) : readProfile i s = refuse .range s := by
  simp [readProfile, h, List.getElem?_eq_none hi]

/-- An entry of the ACTIVE bank with its base offset (R60). -/
theorem readProfile_of_entry {s : State} {i : Nat} {e : ProfileEntry} {b : Int}
    (he : s.store.active.entries[i]? = some e) (hb : s.store.active.offsets[i]? = some b) :
    readProfile i s = done (profileBody i e b s.store) s := by
  have hne : s.store.active.entries ≠ [] := by
    rintro h
    simp [h] at he
  simp [readProfile, hne, he, hb]

theorem profileBody_word2 (i0 i1 : Byte) (e : ProfileEntry) (b : Int) (p : ProfileStore) :
    profileBody (word2 i0 i1) e b p =
      [0, presence [e.step.isSome, e.cap.isSome, p.takeover.isSome], i0, i1] ++ bytes4 e.start ++ signed2 e.grade
        ++ signed2 (e.step.getD 0) ++ bytes2 (e.cap.getD 0) ++ signed4 b ++ bytes2 p.active.entries.length
        ++ signed2 p.active.basis ++ bytes4 (p.takeover.getD 0) := by
  rw [profileBody, bytes2_word2]
  rfl

theorem readTiltEntry_of_none {s : State} (h : s.store.tiltTable = none) (i : Nat) :
    readTiltEntry i s = refuse .noData s := by
  simp [readTiltEntry, h]

/-- An entry of the tilt table (R183). -/
theorem readTiltEntry_of_table {s : State} {table : List Int} (h : s.store.tiltTable = some table) (i0 i1 : Byte) :
    readTiltEntry (word2 i0 i1) s = if 24 < word2 i0 i1 then refuse .range s
      else ⟨.ok, [1, i0, i1] ++ signed2 (table.getD (word2 i0 i1) 0), s⟩ := by
  simp only [readTiltEntry, h, bytes2_word2]
  rfl

/-- A point of a valve map, NO_DATA without a map and RANGE beyond its points (R126). -/
theorem readPoint_eq (k : TableKind) (map : Option (List MapPoint)) (i0 i1 : Byte) (s : State) :
    readPoint k map (word2 i0 i1) s = (map.map (fun m => ((m[word2 i0 i1]?).map (fun q =>
      (⟨.ok, [kindByte k, i0, i1] ++ bytes2 q.d ++ bytes2 q.i ++ [byte m.length], s⟩ : Answer))).getD
        (refuse .range s))).getD (refuse .noData s) := by
  cases map with
  | none => rfl
  | some m =>
    simp only [readPoint, bytes2_word2, Option.map_some, Option.getD_some]
    cases m[word2 i0 i1]? <;> rfl

/-! ## Bodies that the forwarding of the request does not change -/

/-- A request's forwarding leaves the state as it was up to the queues, the counters and the latches. -/
theorem SameButQueues.eq {s t : State} (h : SameButQueues s t) :
    t = { s with portU := t.portU, portD := t.portD, counters := t.counters, events := t.events } := by
  cases s
  cases t
  simp only [SameButQueues] at h
  obtain ⟨rfl, rfl, rfl, rfl, rfl, rfl, rfl, rfl, rfl, rfl, rfl, rfl, rfl, rfl, rfl, rfl, -, rfl, rfl⟩ := h
  rfl

theorem SameButQueues.snapshotBody_eq {s t : State} (h : SameButQueues s t) : snapshotBody t = snapshotBody s := by
  rw [h.eq]
  rfl

theorem SameButQueues.testResultBody_eq {s t : State} (h : SameButQueues s t) : testResultBody t = testResultBody s := by
  rw [h.eq]
  rfl

/-! ## TEST_RESULT -/

theorem byte_outcomeCode (o : TestOutcome) : byte (outcomeCode o) =
    if o = .none then 0 else if o = .found then 1 else if o = .notFound then 2
      else if o = .wrongDirection then 3 else if o = .travel then 4
      else if o = .noBeam then 5 else if o = .offColumn then 6
      else if o = .request then 7 else if o = .stop then 8 else 9 := by
  cases o <;> rfl

theorem byte_dirCode (d : Option Dir) :
    byte (dirCode d) = if d = some .raise then 1 else if d = some .lower then 2 else 0 := by
  match d with
  | none => rfl
  | some .raise => rfl
  | some .lower => rfl

/-! ## SNAPSHOT -/

/-- The depth error is present with both of its operands (R99). -/
theorem depthError_eq_bind (s : State) : depthError s =
    (measured s).bind (fun m => (designDepth s.chain.s s).map (fun d => m.1 - d)) := by
  unfold depthError
  cases measured s <;> cases designDepth s.chain.s s <;> rfl

theorem depthReport_eq (s : State) : depthReport s =
    (s.depth.last.map (fun f => byte (dirCode f.dir) :: (bytes2 f.current ++ bytes2 f.magnitude ++ [f.seq]))).getD
      [0, 0, 0, 0, 0, 0] := by
  unfold depthReport
  cases s.depth.last <;> rfl

theorem travelReport_eq (s : State) : travelReport s =
    (s.travel.last.map (fun v => bytes2 v.limit ++ [byte (reasonCode v.reason)])).getD [0, 0, 0] := by
  unfold travelReport
  cases s.travel.last <;> rfl

end Sys2Proof.Machine

namespace Sys2Proof.Scope

open Machine

/-- Settles O55: each reply is the body of its rule, on a state that differs from the one before by its forwarding. -/
theorem reports : Obligations.Reports := by
  refine ⟨fun r s b hbody => ⟨?_, ?_⟩, ?_, ?_⟩
  · have run : exec (.paramRead r) s = .next (answerRequest codeParamRead 1 r paramRead s) := rfl
    refine run.trans ((next_answerRequest 1 hbody rfl).trans (answered_ext ?_))
    rintro t ⟨-, -, hparams, -⟩
    rw [paramRead_eq, hparams]
  · have run : exec (.fwdRead r) s = .next (answerRequest codeFwdRead 1 r fwdRead s) := rfl
    refine run.trans ((next_answerRequest 1 hbody rfl).trans (answered_ext ?_))
    rintro t ⟨-, -, -, -, -, -, -, -, -, -, -, -, -, -, -, hfwd, -⟩
    rw [fwdRead_eq, hfwd]
  · intro r s k i0 i1 hbody i reads p point
    have run : exec (.readEntry r) s = .next (answerRequest codeReadEntry 3 r readEntry s) := rfl
    have hreads {act : State → Answer} (h : ∀ t, t.store = s.store → readEntry [k, i0, i1] t = act t) : reads act :=
      run.trans ((next_answerRequest 3 hbody rfl).trans
        (answered_ext fun t ⟨_, _, _, _, _, _, _, hstore, _⟩ => h t hstore))
    refine ⟨fun hk => ?_, fun hk hempty => ?_, fun hk hne hi => ?_, fun e b hk he hb => ?_, fun hk hnone => ?_,
      fun table hk htable => ?_, fun hk => ?_, fun hk => ?_⟩
    · exact hreads fun t _ => readEntry_unknown hk i0 i1 t
    all_goals
      subst hk
    · exact hreads fun t hstore => readProfile_of_empty (by rwa [hstore]) i
    · exact hreads fun t hstore => readProfile_of_range (by rwa [hstore]) (by rwa [hstore])
    · refine hreads fun t hstore => (readProfile_of_entry (e := e) (b := b) (by rwa [hstore]) (by rwa [hstore])).trans ?_
      rw [profileBody_word2, hstore]
      rfl
    · exact hreads fun t hstore => readTiltEntry_of_none (by rwa [hstore]) i
    · exact hreads fun t hstore => readTiltEntry_of_table (by rwa [hstore]) i0 i1
    · exact hreads fun t hstore => (readPoint_eq .valveRaise t.store.raiseMap i0 i1 t).trans (by rw [hstore]; rfl)
    · exact hreads fun t hstore => (readPoint_eq .valveLower t.store.lowerMap i0 i1 t).trans (by rw [hstore]; rfl)
  · intro r s hbody target design error aged x phase stepping step height
    have runCounters : exec (.countersRead r) s =
      .next (answerRequest codeCountersRead 0 r (fun _ => countersRead) s) := rfl
    have runResult : exec (.testResult r) s = .next (answerRequest codeTestResult 0 r (fun _ => testResult) s) := rfl
    have runSnapshot : exec (.snapshot r) s = .next (answerRequest codeSnapshot 0 r (fun _ => snapshot) s) := rfl
    refine ⟨runCounters.trans (next_answerRequest 0 hbody rfl), ?_, ?_⟩
    · refine runResult.trans ((next_answerRequest 0 hbody rfl).trans (answered_ext fun t ht => ?_))
      have hphase : byte (phaseCode s.test.phase) = phase := by
        simp only [phase]
        cases s.test.phase <;> rfl
      have hstep : presentStep s = (step, height) := by
        simp only [presentStep, step, height, stepping]
        cases s.test.phase <;> rfl
      rw [testResult, ht.testResultBody_eq, testResultBody, hphase, hstep, byte_outcomeCode, byte_dirCode]
      rfl
    · refine runSnapshot.trans ((next_answerRequest 0 hbody rfl).trans (answered_ext fun t ht => ?_))
      have herror : depthError s = error := depthError_eq_bind s
      have hdesign : designDepth s.chain.s s = design := rfl
      have haged : reportedAge s = aged := rfl
      have hlatch : noteTarget t.chain.s t =
          if targetSaturates s.store.active s.chain.s then latch .targetSaturated none s.chain.s t else t := by
        obtain ⟨-, -, -, -, hchain, -, -, hstore, -⟩ := ht
        rw [noteTarget, hchain, hstore]
      rw [snapshot, ht.snapshotBody_eq, snapshotBody, hlatch, herror, hdesign, haged, depthReport_eq, travelReport_eq,
        Option.isSome_map]
      rfl

end Sys2Proof.Scope
end

section
/-! The bounds of the queues, the forwarding table, the counters and the node number (R163, R169, R170, R172, R190): every
command keeps them. -/

namespace Sys2Proof.Machine

/-! ## What the bounds read -/

/-- All that `Bounded` reads. -/
def sizes (s : State) : List QueuedU × List CanFrame × List FwdEntry × Counters × BitVec 6 :=
  (s.portU.queue, s.portD.queue, s.fwd, s.counters, s.node)

/-- What leaves the queues, the table, the counters and the node number alone keeps them within their bounds. -/
theorem bounded_of_sizes {s t : State} (h : Bounded s) (hsizes : sizes t = sizes s) : Bounded t := by
  obtain ⟨portU, portD, fwd, counters, node⟩ := h
  simp only [sizes, Prod.mk.injEq] at hsizes
  obtain ⟨hu, hd, hf, hk, hn⟩ := hsizes
  exact ⟨by rwa [hu], by rwa [hd], by rwa [hf], by rwa [hk], by rwa [hn]⟩

/-! ## Counters, latches and forwarding -/

/-- A counter written within 65,535 keeps the others' bounds (R190). -/
theorem countersBounded_putCounter {k : Counters} {v : Nat} (c : Counter) (h : CountersBounded k) (hv : v ≤ 65535) :
    CountersBounded (putCounter k c v) := by
  obtain ⟨h1, h2, h3, h4, h5, h6, h7, h8, h9, h10, h11⟩ := h
  cases c <;> constructor <;> assumption

theorem bounded_count {s : State} (c : Counter) (n : Nat) (h : Bounded s) : Bounded (count c n s) :=
  ⟨h.portU, h.portD, h.fwd, countersBounded_putCounter c h.counters (min_le_left _ _), h.node⟩

theorem bounded_setLatch {s : State} (e : Event) (h : Bounded s) : Bounded (setLatch e s) := bounded_of_sizes h rfl

/-- A frame joins the Port U queue where there is room for it (R170). -/
theorem bounded_pushU {s : State} (q : QueuedU) (h : Bounded s) (hroom : s.portU.queue.length < 32) :
    Bounded (pushU q s) :=
  ⟨by simpa using hroom, h.portD, h.fwd, h.counters, h.node⟩

theorem bounded_dropNotice {s : State} (h : Bounded s) : Bounded (dropNotice s) := by
  have hc := bounded_count .noticeDropped 1 h
  unfold dropNotice
  dsimp only
  split <;> [exact hc; split]
  · exact bounded_setLatch _ hc
  · exact bounded_count _ _ (bounded_setLatch _ hc)

/-- A notice joins the Port U queue where there is room, and is counted where there is none (R189). -/
theorem bounded_latch {s : State} (e : Event) (b : Option BeamCode) (c : Nat) (h : Bounded s) :
    Bounded (latch e b c s) := by
  have hl := bounded_setLatch e h
  unfold latch
  split <;> [exact h; split] <;> [exact hl; split]
  · rename_i hroom
    exact bounded_pushU _ hl (by simpa [roomU] using hroom)
  · exact bounded_dropNotice hl

theorem bounded_latchHere {s : State} (e : Event) (b : Option BeamCode) (h : Bounded s) : Bounded (latchHere e b s) :=
  bounded_latch e b s.chain.s h

theorem bounded_countReject {s : State} (c : Counter) (b : BeamCode) (h : Bounded s) : Bounded (countReject c b s) := by
  have hc := bounded_count c 1 h
  unfold countReject
  dsimp only
  split <;> [exact bounded_latchHere _ _ hc; exact hc]

theorem bounded_forwardToD {s : State} (f : CanFrame) (h : Bounded s) : Bounded (forwardToD f s) := by
  unfold forwardToD
  split
  · rename_i hroom
    exact ⟨h.portU, by simpa [roomD] using hroom, h.fwd, h.counters, h.node⟩
  · exact bounded_latchHere _ _ (bounded_count _ _ h)

theorem bounded_forwardToU {s : State} (f : CanFrame) (h : Bounded s) : Bounded (forwardToU f s) := by
  unfold forwardToU
  split
  · rename_i hroom
    exact bounded_pushU _ h (by simpa [roomU] using hroom)
  · exact bounded_latchHere _ _ (bounded_count _ _ h)

theorem bounded_forwardFrom {s : State} (p : Port) (f : CanFrame) (h : Bounded s) : Bounded (forwardFrom p f s) := by
  cases p with
  | u => exact bounded_forwardToD f h
  | d => exact bounded_forwardToU f h

theorem bounded_forwardByTable {s : State} (p : Port) (i : Ident) (f : CanFrame) (h : Bounded s) :
    Bounded (forwardByTable p i f s) := by
  unfold forwardByTable
  split <;> [exact bounded_forwardFrom p f h; exact h]

theorem bounded_forwardTaken {s : State} (p : Port) (k : Byte) (f : Arrival) (h : Bounded s) :
    Bounded (forwardTaken p k f s) :=
  bounded_forwardByTable p _ _ h

theorem bounded_forwardRequest {s : State} (d : BitVec 6) (code : Byte) (r : Request) (h : Bounded s) :
    Bounded (forwardRequest d code r s) :=
  bounded_forwardByTable .u _ _ h

/-- The forward queue only shrinks by the discard (R168). -/
theorem bounded_discardManualValve {s : State} (h : Bounded s) : Bounded (discardManualValve s) :=
  ⟨h.portU, (List.length_filter_le _ _).trans h.portD, h.fwd, h.counters, h.node⟩

/-! ## Requests -/

theorem bounded_sendReply {a : Answer} (code : Byte) (r : Request) (h : Bounded a.state) :
    Bounded (sendReply code r a) := by
  unfold sendReply
  split
  · rename_i hroom
    exact bounded_pushU _ h (by simpa [roomU] using hroom)
  · exact bounded_count _ _ h

/-- A request keeps the bounds where the rule that owns it does (R175). -/
theorem bounded_answerRequest {code : Byte} {n : Nat} {r : Request} {act : List Byte → State → Answer} {s : State}
    (h : Bounded s) (hact : ∀ body t, Bounded t → Bounded (act body t).state) :
    Bounded (answerRequest code n r act s) := by
  have hf := bounded_forwardRequest s.node code r h
  unfold answerRequest
  dsimp only
  split <;> [exact bounded_sendReply code r hf; exact bounded_sendReply code r (hact _ _ hf)]

/-- A request whose rule leaves the sizes alone keeps them within their bounds. -/
theorem bounded_quietRequest {code : Byte} {n : Nat} {r : Request} {act : List Byte → State → Answer} {s : State}
    (h : Bounded s) (hact : ∀ body t, sizes (act body t).state = sizes t) : Bounded (answerRequest code n r act s) :=
  bounded_answerRequest h fun body t ht => bounded_of_sizes ht (hact body t)

/-! ## Profile, channels and trace -/

theorem bounded_noteTarget {s : State} (c : Nat) (h : Bounded s) : Bounded (noteTarget c s) := by
  unfold noteTarget
  split <;> [exact bounded_latch _ _ _ h; exact h]

theorem bounded_swapBanks {s : State} (h : Bounded s) : Bounded (swapBanks s) :=
  bounded_latchHere _ _ (bounded_of_sizes h rfl)

theorem bounded_finishTakeover {s : State} (h : Bounded s) : Bounded (finishTakeover s) := by
  unfold finishTakeover
  split <;> [exact bounded_swapBanks h; exact h]

theorem bounded_checkTakeover {s : State} (h : Bounded s) : Bounded (checkTakeover s) := by
  unfold checkTakeover
  split <;> [split; skip] <;> [exact bounded_swapBanks h; exact h; exact h]

/-- TRACE_DATA frames leave 7 entries of the Port U queue free (R151). -/
theorem bounded_streamUpTo {s : State} (k : Nat) (h : Bounded s) : Bounded (streamUpTo k s) := by
  induction k generalizing s with
  | zero => exact h
  | succ k ih =>
    unfold streamUpTo
    split
    · rename_i hcan
      have hroom : s.portU.queue.length + 8 ≤ 32 := by
        simp only [canStream, Bool.and_eq_true, decide_eq_true_eq] at hcan
        exact hcan.2
      exact ih (bounded_pushU _ (bounded_of_sizes h rfl) (by dsimp only; omega))
    · exact h

theorem bounded_burst {s : State} (h : Bounded s) : Bounded (burst s) := by
  unfold burst
  split <;> [exact bounded_streamUpTo _ h; exact h]

theorem bounded_streamTick {s : State} (h : Bounded s) : Bounded (streamTick s) := by
  unfold streamTick
  split <;> [exact bounded_streamUpTo _ h; exact h]

theorem bounded_crossing {s : State} (recut : Bool) (c : Nat) (h : Bounded s) : Bounded (crossing recut c s) := by
  have stored {t : State} (q : BitVec 32) (ht : Bounded t) : Bounded (storeRecord c recut q t) :=
    bounded_of_sizes (bounded_noteTarget c ht) rfl
  have checked {t : State} (ht : Bounded t) : Bounded (checkWatermark c t) := by
    unfold checkWatermark
    split <;> [exact bounded_latch _ _ _ ht; exact ht]
  have numbered : Bounded { s with trace := { s.trace with seqNo := s.trace.seqNo + 1 } } := bounded_of_sizes h rfl
  unfold crossing
  dsimp only
  split <;> [split; skip]
  · exact bounded_latch _ _ _ (bounded_count _ _ numbered)
  · exact bounded_burst (checked (stored _ numbered))
  · exact h

/-! ## Control -/

theorem bounded_enterAuto {s : State} (h : Bounded s) : Bounded (enterAuto s) :=
  bounded_discardManualValve (bounded_of_sizes h rfl)

theorem bounded_enterTest {s : State} (h : Bounded s) : Bounded (enterTest s) :=
  bounded_of_sizes (bounded_discardManualValve (s := setState .test { s with
    ctl := { s.ctl with prior := some s.ctl.state } }) (bounded_of_sizes h rfl)) (by
      unfold enterTest
      simp [sizes])

theorem bounded_closeTest {s : State} (o : TestOutcome) (t : TestRun) (i : Option Nat) (h : Bounded s) :
    Bounded (closeTest o t i s) := by
  have hn : Bounded (if o = .stop then s else emitDepthNow .neutral s) := by
    split <;> [exact h; exact bounded_of_sizes h rfl]
  exact bounded_of_sizes (bounded_latchHere .testDone (some t.beam) (bounded_of_sizes hn (by simp [sizes]))) rfl

theorem bounded_closeRunningTest {s : State} (o : TestOutcome) (h : Bounded s) : Bounded (closeRunningTest o s) := by
  unfold closeRunningTest
  split <;> [exact h; exact bounded_closeTest _ _ _ h; exact bounded_closeTest _ _ _ h]

theorem bounded_endTest {s : State} (o : TestOutcome) (h : Bounded s) : Bounded (endTest o s) := by
  unfold endTest
  split <;> [exact bounded_of_sizes (bounded_closeRunningTest o h) (by simp [sizes]); exact h]

theorem bounded_reportFading {s : State} (c : BeamCode) (h : Bounded s) : Bounded (reportFading c s) := by
  unfold reportFading
  split <;> [exact bounded_latchHere _ _ (bounded_of_sizes h (by simp [sizes])); exact h]

theorem bounded_reportRecovered {s : State} (h : Bounded s) : Bounded (reportRecovered s) := by
  unfold reportRecovered
  split <;> [exact bounded_enterAuto h; exact h]

theorem bounded_reportSuspend {s : State} (h : Bounded s) : Bounded (reportSuspend s) := by
  unfold reportSuspend
  split <;> [exact bounded_latchHere _ _ (bounded_of_sizes h (by simp [sizes])); exact h]

theorem bounded_trip {s : State} (h : Bounded s) : Bounded (trip s) := by
  have hc : Bounded (setState .tripped (clearPrior (closeRunningTest .stop s))) :=
    bounded_of_sizes (bounded_closeRunningTest .stop h) rfl
  exact bounded_latchHere _ _ (bounded_of_sizes (bounded_discardManualValve hc) (by simp [sizes]))

theorem bounded_referenceStrike {s : State} (c : BeamCode) (r : StrikeResult) (h : Bounded s) :
    Bounded (referenceStrike c r s) := by
  have measured : Bounded (measuredComputation s) := by
    unfold measuredComputation
    split <;> [exact bounded_of_sizes (bounded_noteTarget s.chain.s h) (by simp [sizes]); exact h]
  have beyond (high : Bool) : Bounded (offColumnComputation c high s) :=
    bounded_of_sizes (bounded_latchHere .offColumn (some c) h) (by unfold offColumnComputation; simp [sizes])
  unfold referenceStrike
  split <;> [split; exact h]
  · exact measured
  · exact measured
  · exact beyond true
  · exact beyond false
  · exact h
  · exact h

/-! ## Strikes -/

theorem bounded_setBeam {s : State} (c : BeamCode) (e : Beam) (h : Bounded s) : Bounded (setBeam c e s) :=
  bounded_of_sizes h rfl

theorem bounded_checkSequence {s : State} (c : BeamCode) (n : Byte) (h : Bounded s) :
    Bounded (checkSequence c n s) := by
  unfold checkSequence
  extract_lets missing u
  have hu : Bounded u := by
    unfold u
    split <;> [exact bounded_latchHere _ _ (bounded_count _ _ h); exact h]
  exact bounded_setBeam _ _ hu

theorem bounded_acceptHeight {s : State} (c : BeamCode) (b : Int) (h : Bounded s) : Bounded (acceptHeight c b s) :=
  bounded_count _ _ (bounded_setBeam _ _ h)

theorem bounded_handleKind {s : State} (c : BeamCode) (kind : StrikeKind) (h : Bounded s) :
    Bounded (handleKind c kind s).2 := by
  cases kind with
  | single p =>
    have hr := bounded_countReject .jumpRejects c h
    simp only [handleKind, failWindow]
    split <;> [exact bounded_acceptHeight _ _ h; split]
    · exact bounded_setBeam _ _ hr
    · exact bounded_latchHere _ _ (bounded_acceptHeight _ _ hr)
  | edgeHigh | edgeLow => exact bounded_setBeam _ _ h
  | multi => exact bounded_countReject _ _ h

theorem bounded_chooseFirst {s : State} (c : BeamCode) (h : Bounded s) : Bounded (chooseFirst c s) := by
  unfold chooseFirst
  split <;> [exact bounded_of_sizes h rfl; exact h]

theorem bounded_countGood {s : State} (c : BeamCode) (h : Bounded s) : Bounded (countGood c s) := by
  unfold countGood
  dsimp only
  split
  · exact bounded_chooseFirst c (bounded_latchHere _ _ (bounded_setBeam _ _ h))
  · exact bounded_setBeam _ _ h

theorem bounded_judgeWindow {s : State} (c : BeamCode) (h : Bounded s) : Bounded (judgeWindow c s) := by
  unfold judgeWindow
  dsimp only
  split <;> [split; exact h] <;> exact bounded_latchHere _ _ (bounded_setBeam _ _ h)

theorem bounded_pairStrike {s : State} (c : BeamCode) (b : Int) (h : Bounded s) : Bounded (pairStrike c b s) := by
  unfold pairStrike
  split <;> [exact h; split] <;> [exact h; split] <;> [exact bounded_judgeWindow c (bounded_setBeam _ _ h); exact h]

theorem bounded_beamTransition {s : State} (c : BeamCode) (r : StrikeResult) (h : Bounded s) :
    Bounded (beamTransition c r s) := by
  obtain hr | ⟨-, e, -, hr | hr⟩ | ⟨-, hr⟩ | ⟨-, b, hr⟩ | ⟨-, hr⟩ := beamTransition_cases c r s <;> rw [hr]
  · exact h
  · exact bounded_setBeam c e h
  · exact bounded_countGood c (bounded_setBeam c e h)
  · exact bounded_countGood c h
  · exact bounded_pairStrike c b h
  · exact bounded_reportRecovered (bounded_setBeam _ _ h)

theorem bounded_handTestStrike {s : State} (c : BeamCode) (r : StrikeResult) (h : Bounded s) :
    Bounded (handTestStrike c r s) := by
  obtain hr | hr | ⟨p, -, -, hr⟩ := handTestStrike_cases c r s <;> rw [hr]
  · exact h
  · exact bounded_endTest .offColumn h
  · exact bounded_of_sizes h rfl

theorem bounded_handleStrike {s : State} (k : Strike) (h : Bounded s) : Bounded (handleStrike k s) := by
  have hk := bounded_beamTransition k.code (handleKind k.code k.kind (checkSequence k.code k.seq s)).1
    (bounded_handleKind k.code k.kind (bounded_checkSequence k.code k.seq h))
  refine bounded_handTestStrike _ _ ?_
  unfold handReferenceStrike
  split <;> [exact bounded_referenceStrike _ _ hk; exact hk]

theorem bounded_takeStrike {s : State} (f : Arrival) (h : Bounded s) : Bounded (takeStrike f s) := by
  unfold takeStrike
  split <;> [exact bounded_count _ _ h; exact bounded_handleStrike _ (bounded_forwardTaken _ _ _ h)]

/-! ## Timeouts and the tilt record -/

theorem bounded_loseBeam {s : State} (c : BeamCode) (h : Bounded s) : Bounded (loseBeam c s) := by
  have hl := bounded_latchHere .beamLost (some c) (bounded_setBeam c (lostEntry (beam s c)) h)
  unfold loseBeam
  dsimp only
  split <;> [split; exact hl] <;> [exact bounded_endTest _ hl; exact hl]

theorem bounded_strikeTimeout {s : State} (c : BeamCode) (h : Bounded s) : Bounded (strikeTimeout c s) := by
  unfold strikeTimeout
  split <;> [exact bounded_loseBeam c h; exact h]

theorem bounded_referenceTimeout {s : State} (h : Bounded s) : Bounded (referenceTimeout s) := by
  unfold referenceTimeout
  split <;> [split; exact h]
  · exact bounded_reportFading _ (bounded_latchHere _ _ (bounded_setBeam _ _ h))
  · exact h

theorem bounded_loseReference {s : State} (c : BeamCode) (h : Bounded s) : Bounded (loseReference c s) := by
  have hl : Bounded (referenceChanged (loseBeam c s)) := bounded_of_sizes (bounded_loseBeam c h) rfl
  unfold loseReference
  dsimp only
  split
  · exact bounded_reportRecovered (bounded_latchHere _ _ (bounded_setBeam _ _ hl))
  · exact bounded_reportSuspend hl

theorem bounded_fadingTimeout {s : State} (h : Bounded s) : Bounded (fadingTimeout s) := by
  unfold fadingTimeout
  split <;> [split; exact h] <;> [exact bounded_loseReference _ h; exact h]

theorem bounded_expireAll {s : State} (h : Bounded s) : Bounded (expireAll s) := by
  have hb : Bounded (expireBeams s) := bounded_strikeTimeout .b3 (bounded_strikeTimeout .b2
    (bounded_strikeTimeout .b1 (bounded_strikeTimeout .b0 h)))
  rw [expireAll_eq]
  split <;> [exact bounded_referenceTimeout hb; exact bounded_fadingTimeout hb]

theorem bounded_tiltExpiry {s : State} (h : Bounded s) : Bounded (tiltExpiry s) := by
  unfold tiltExpiry
  split <;> [exact bounded_latchHere _ _ (bounded_of_sizes h rfl); exact h]

theorem bounded_judgeTilt {s : State} (h : Bounded s) : Bounded (judgeTilt s) := by
  unfold judgeTilt
  split <;> [exact h; split] <;> [exact bounded_tiltExpiry h; exact bounded_of_sizes h rfl]

theorem bounded_takeTiltFrame {s : State} (f : Arrival) (h : Bounded s) : Bounded (takeTiltFrame f s) := by
  have taken {t : State} (z : Int) (ht : Bounded t) : Bounded (takeTilt z t) := by
    unfold takeTilt
    dsimp only
    split <;> [exact bounded_latchHere _ _ (bounded_of_sizes ht rfl); exact bounded_of_sizes ht rfl]
  unfold takeTiltFrame
  split <;> [exact bounded_count _ _ h; exact taken _ (bounded_forwardTaken _ _ _ h)]

/-! ## Lines and edges -/

theorem bounded_moveEdge {s : State} (w : Bool) (h : Bounded s) : Bounded (moveEdge w s) := by
  unfold moveEdge
  dsimp only
  split <;> [exact bounded_latchHere _ _ (bounded_of_sizes h rfl); exact bounded_of_sizes h rfl]

theorem bounded_crossBoundaries {s : State} (n : Nat) (h : Bounded s) : Bounded (crossBoundaries n s) := by
  have folded (l : List Nat) : ∀ t : State, Bounded t →
      Bounded (l.foldl (fun t beta => crossing (beta ≤ s.chain.h) beta t) t) := by
    induction l with
    | nil => exact fun t ht => ht
    | cons beta l ih => exact fun t ht => ih _ (bounded_crossing _ _ ht)
  exact folded _ s h

theorem bounded_addHoldDistance {s : State} (m : Nat) (h : Bounded s) : Bounded (addHoldDistance m s) := by
  have hd : Bounded { s with chain := { s.chain with dH := holdDistanceAfter m s } } := bounded_of_sizes h rfl
  unfold addHoldDistance compareHoldDistance
  split <;> [split; exact h] <;> [exact bounded_reportSuspend hd; exact hd]

theorem bounded_odoEdge {s : State} (w : Bool) (h : Bounded s) : Bounded (odoEdge w s) := by
  have counted : Bounded (countEdge w s) := by
    have hm := bounded_checkTakeover (bounded_moveEdge w h)
    refine bounded_addHoldDistance _ ?_
    split <;> [exact bounded_of_sizes (bounded_crossBoundaries s.chain.n hm) rfl; exact hm]
  unfold odoEdge
  split <;> [exact bounded_endTest _ counted; exact bounded_endTest _ h]

theorem bounded_acceptLine {s : State} (l : Line) (h : Bounded s) : Bounded (acceptLine l s) := by
  have hl : Bounded (setLine l { lineOf s l with active := !(lineOf s l).active, since := none } s) :=
    bounded_of_sizes h rfl
  unfold acceptLine
  cases l with
  | odo => dsimp only; split <;> [exact bounded_odoEdge _ hl; exact hl]
  | dir | dig => exact hl
  | stop => dsimp only; split <;> [exact hl; exact bounded_trip hl]

theorem bounded_filterExpiry {s : State} (l : Line) (h : Bounded s) : Bounded (filterExpiry l s) := by
  unfold filterExpiry
  split <;> [exact bounded_acceptLine l h; exact h]

theorem bounded_lineLevelChange {s : State} (l : Line) (high : Bool) (h : Bounded s) :
    Bounded (lineLevelChange l high s) := by
  have set {t : State} (f : LineFilter) (ht : Bounded t) : Bounded (setLine l f t) := bounded_of_sizes ht rfl
  have start {t : State} (ht : Bounded t) : Bounded (startCandidate l t) := by
    unfold startCandidate
    dsimp only
    split <;> [split; exact ht] <;> [exact bounded_acceptLine l (set _ ht); exact set _ ht]
  unfold lineLevelChange
  dsimp only
  split <;> [exact set _ h; exact start (set _ h)]

/-! ## Ticks and the valve test -/

theorem bounded_deliverTick {s : State} (h : Bounded s) : Bounded (deliverTick s) := by
  have decays {t : State} (ht : Bounded t) : Bounded (decayHeld t) := by
    unfold decayHeld
    split <;> [(dsimp only; split); exact ht; exact ht]
    · exact bounded_of_sizes (bounded_latchHere .outputDecayed (reference t) (bounded_of_sizes ht
        (by simp [sizes]))) rfl
    · exact bounded_of_sizes ht rfl
  have staleD {t : State} (ht : Bounded t) : Bounded (staleDepth t) := by
    unfold staleDepth
    split
    · exact bounded_of_sizes (decays (bounded_count .staleTicks 1 ht)) (by simp [sizes])
    · exact bounded_of_sizes ht (by simp [sizes])
  have staleT {t : State} (ht : Bounded t) : Bounded (staleTravel t) := by
    unfold staleTravel
    split <;> [exact bounded_of_sizes (bounded_count .staleTicks 1 ht) rfl; exact bounded_of_sizes ht rfl]
  have depth {t : State} (ht : Bounded t) : Bounded (depthAtTick t) := by
    unfold depthAtTick
    repeat' split
    · exact ht
    · exact bounded_of_sizes ht (by simp [sizes])
    · exact ht
    · exact staleD ht
    · exact bounded_of_sizes ht (by simp [sizes])
    · exact staleD ht
  have travel {t : State} (ht : Bounded t) : Bounded (travelAtTick t) := by
    unfold travelAtTick
    repeat' split
    · exact bounded_of_sizes ht rfl
    · exact ht
    · exact staleT ht
    · exact bounded_of_sizes ht rfl
    · exact staleT ht
  have ticked : Bounded (depthTick s) := bounded_of_sizes (depth h) rfl
  exact bounded_streamTick (bounded_of_sizes (travel ticked) rfl)

theorem bounded_outputTick {s : State} (h : Bounded s) : Bounded (outputTick s) := by
  unfold outputTick
  split <;> [exact bounded_deliverTick (bounded_of_sizes h rfl); exact h]

theorem bounded_takeSync {s : State} (h : Bounded s) : Bounded (takeSync s) := by
  unfold takeSync
  split <;> [exact h; skip; skip] <;> exact bounded_deliverTick (bounded_of_sizes h rfl)

theorem bounded_syncTimeout {s : State} (h : Bounded s) : Bounded (syncTimeout s) := by
  unfold syncTimeout
  split <;> [exact bounded_latchHere _ _ (bounded_deliverTick (bounded_of_sizes h rfl)); exact h]

theorem bounded_writeStep {s : State} (t : TestRun) (i : Nat) (h : Bounded s) : Bounded (writeStep t i s) :=
  bounded_of_sizes h (by simp [sizes])

theorem bounded_firstStep {s : State} (h : Bounded s) : Bounded (firstStep s) := by
  unfold firstStep
  split <;> [split; exact h; exact h] <;> [split; exact h]
  · exact bounded_endTest _ h
  · exact bounded_writeStep _ _ h

theorem bounded_stepTimerExpiry {s : State} (h : Bounded s) : Bounded (stepTimerExpiry s) := by
  have judged : Bounded (judgeStep s) := by
    cases hp : s.test.phase with
    | stepping t i m m0 =>
      obtain ⟨moved, hj⟩ := judgeStep_of_stepping hp
      rw [hj]
      split <;> [exact bounded_endTest _ h; split] <;> [exact bounded_endTest _ h; split]
      · exact bounded_writeStep _ _ h
      · exact bounded_endTest _ h
    | idle => simpa [judgeStep, hp] using h
    | waiting t => simpa [judgeStep, hp] using h
  unfold stepTimerExpiry
  split <;> [exact judged; exact h]

theorem bounded_noBeamTimeout {s : State} (h : Bounded s) : Bounded (noBeamTimeout s) := by
  unfold noBeamTimeout
  split <;> [exact bounded_endTest _ h; exact h]

theorem bounded_checkMax {s : State} (h : Bounded s) : Bounded (checkMax s) := by
  unfold checkMax
  split <;> [split; exact h; exact h] <;> [exact bounded_endTest _ h; exact h]

/-! ## Parameters and resets -/

theorem sizes_modeEffects (s : State) :
    (∀ old, sizes (depthModeEffect old s) = sizes s) ∧ (∀ old, sizes (travelModeEffect old s) = sizes s) ∧
    (∀ old, sizes (tickSourceEffect old s) = sizes s) ∧ sizes (tickEffect s) = sizes s := by
  refine ⟨fun old => ?_, fun old => ?_, fun old => ?_, ?_⟩
  · unfold depthModeEffect
    split <;> [split; skip] <;> simp [sizes]
  · unfold travelModeEffect
    split <;> simp [sizes]
  · unfold tickSourceEffect
    split <;> simp [sizes]
  · unfold tickEffect
    dsimp only
    split <;> simp [sizes]

theorem bounded_paramEffect {s : State} (id : Nat) (old : Params) (h : Bounded s) : Bounded (paramEffect id old s) := by
  obtain ⟨hd, ht, hsrc, htick⟩ := sizes_modeEffects s
  unfold paramEffect
  split
  · exact bounded_judgeTilt h
  · exact bounded_expireAll h
  · exact bounded_of_sizes h rfl
  · exact bounded_filterExpiry _ h
  · exact bounded_filterExpiry _ h
  · exact bounded_filterExpiry _ h
  · exact bounded_filterExpiry _ h
  · exact bounded_of_sizes h rfl
  · exact bounded_of_sizes h htick
  · exact bounded_of_sizes h (hsrc _)
  · exact bounded_syncTimeout h
  · exact bounded_of_sizes h (hd _)
  · exact bounded_of_sizes h (ht _)
  · exact bounded_of_sizes h rfl
  · exact bounded_burst h
  · exact bounded_checkMax h
  · exact bounded_noBeamTimeout h
  · exact h

theorem bounded_paramWrite {s : State} (body : List Byte) (h : Bounded s) : Bounded (paramWrite body s).state := by
  obtain hs | ⟨id, v, hs⟩ := paramWrite_state body s <;> rw [hs]
  · exact h
  · exact bounded_paramEffect id s.params (bounded_of_sizes h rfl)

/-- After a reset the queues are empty, the table has its 24 entries and every counter is 0 (R163, R186, R190). -/
theorem bounded_of_reset {t : State} (hu : t.portU.queue = []) (hd : t.portD.queue = []) (hf : t.fwd = resetFwd)
    (hk : t.counters = resetCounters) (hn : 16 ≤ t.node.toNat ∧ t.node.toNat ≤ 23) : Bounded t :=
  ⟨by simp [hu], by simp [hd], by simp [hf, resetFwd], by rw [hk]; constructor <;> decide, hn⟩

theorem bounded_masterReset {s : State} (h : Bounded s) : Bounded (masterReset s) := by
  rw [masterReset_eq]
  exact bounded_of_reset rfl rfl rfl rfl h.node

/-- The straps give a node number of 16 to 23 (R172). -/
theorem bounded_powerOn (straps : BitVec 3) (s : State) : Bounded (powerOn straps s) := by
  rw [powerOn_eq]
  exact bounded_of_reset rfl rfl rfl rfl (by dsimp only; bv_omega)

theorem bounded_takeReset {s : State} (r : Request) (h : Bounded s) : Bounded (takeReset r s) := by
  have hf := bounded_forwardRequest s.node codeReset r h
  unfold takeReset
  dsimp only
  split
  · exact bounded_sendReply codeReset r hf
  · rw [requestReset_eq]
    split <;> [exact bounded_pushU _ hf (by assumption); exact bounded_masterReset hf]

theorem bounded_clearRun {s : State} (h : Bounded s) : Bounded (clearRun s) := by
  have hc : Bounded (clearPrior (closeRunningTest .request s)) :=
    bounded_of_sizes (bounded_closeRunningTest .request h) rfl
  have he : Bounded (setMemory 0 (endRun (finishTakeover (clearPrior (closeRunningTest .request s))))) :=
    bounded_of_sizes (bounded_finishTakeover hc) rfl
  unfold clearRun clearBlocks clearControl
  dsimp only
  split <;> [exact bounded_of_sizes he rfl; exact bounded_of_sizes he (by simp [sizes])]

theorem bounded_departU {s : State} (h : Bounded s) : Bounded (departU s) := by
  unfold departU afterDeparture
  split
  · exact h
  · rename_i q rest hq
    have hp := h.portU
    rw [hq, List.length_cons] at hp
    have taken : Bounded { s with portU := ⟨rest, some q.frame⟩ } :=
      ⟨by dsimp only; omega, h.portD, h.fwd, h.counters, h.node⟩
    split <;> [exact bounded_masterReset (bounded_burst taken); exact bounded_burst taken]

theorem bounded_arbiterTakes {s : State} (h : Bounded s) : Bounded { s with portD := arbiterTakes s.portD } := by
  have hp := h.portD
  have shorter : (arbiterTakes s.portD).queue.length ≤ s.portD.queue.length := by
    unfold arbiterTakes
    split <;> simp_all
  exact ⟨h.portU, shorter.trans hp, h.fwd, h.counters, h.node⟩

/-! ## The rules of the requests -/

theorem sizes_paramRead (body : List Byte) (s : State) : sizes (paramRead body s).state = sizes s := by
  unfold paramRead
  dsimp only
  split <;> rfl

theorem sizes_loadBegin (body : List Byte) (s : State) : sizes (loadBegin body s).state = sizes s := by
  unfold loadBegin
  repeat' split
  all_goals rfl

theorem sizes_loadEntry (sn : Session) (body : List Byte) (s : State) :
    sizes (loadEntry sn body s).state = sizes s := by
  unfold loadEntry
  repeat' split
  all_goals rfl

theorem sizes_loadCancel (body : List Byte) (s : State) : sizes (loadCancel body s).state = sizes s := by
  unfold loadCancel cancelKind
  repeat' split
  all_goals rfl

theorem sizes_readEntry (body : List Byte) (s : State) : sizes (readEntry body s).state = sizes s := by
  unfold readEntry readProfile readTiltEntry readPoint
  dsimp only
  repeat' split
  all_goals rfl

theorem bounded_loadCommit {s : State} (body : List Byte) (h : Bounded s) : Bounded (loadCommit body s).state := by
  have profile (n : Nat) : Bounded (commitProfile n s) := by
    unfold commitProfile
    dsimp only
    split <;> [exact bounded_of_sizes h rfl; exact bounded_swapBanks (bounded_of_sizes h rfl)]
  unfold loadCommit
  split <;> [skip; exact h]
  unfold commitSession
  split <;> [exact h; skip]
  split <;> [exact h; skip]
  split <;> [exact h; skip]
  split
  · exact profile _
  all_goals split <;> [exact h; exact bounded_of_sizes h rfl]

theorem bounded_takeLoadEntry {s : State} (r : Request) (h : Bounded s) : Bounded (takeLoadEntry r s) := by
  unfold takeLoadEntry
  split
  · exact bounded_sendReply _ r (bounded_forwardRequest _ _ r h)
  · exact bounded_quietRequest h (sizes_loadEntry _)

theorem sizes_openRunRequest (body : List Byte) (s : State) : sizes (openRunRequest body s).state = sizes s := by
  obtain hr | ⟨start, g, discard, -, -, -, hr⟩ := openRunRequest_state body s <;> rw [hr]
  simp [sizes, openRun]

theorem bounded_closeRun {s : State} (h : Bounded s) : Bounded (closeRun s).state := by
  have hf : Bounded (releaseControl .standby (endRun (finishTakeover s))) :=
    bounded_of_sizes (bounded_finishTakeover h) (by simp [sizes])
  unfold closeRun
  split <;> [exact hf; exact h]

/-- All that the end of BENCH can leave (R39, R80). -/
theorem finishBench_state (c : BeamCode) (h : Int) (s : State) :
    (finishBench c h s).state = s ∨ (finishBench c h s).state = noteTarget s.chain.s s ∨
    ∃ d, (finishBench c h s).state = setDepthSetting d (noteTarget s.chain.s s) ∨
      (finishBench c h s).state = setDepthSetting d (benchBeam c (noteTarget s.chain.s s)) := by
  unfold finishBench
  split <;> [exact Or.inl rfl; (dsimp only; split)]
  · exact Or.inr (Or.inl rfl)
  · split <;> [exact Or.inr (Or.inr ⟨_, Or.inl rfl⟩); exact Or.inr (Or.inr ⟨_, Or.inr rfl⟩)]

theorem bounded_bench {s : State} (body : List Byte) (h : Bounded s) : Bounded (bench body s).state := by
  have hn := bounded_noteTarget s.chain.s h
  obtain hb | ⟨-, c, d, hb⟩ := bench_state body s <;> rw [hb] <;> [exact h; skip]
  obtain hf | hf | ⟨v, hf | hf⟩ := finishBench_state c d s <;> rw [hf]
  · exact h
  · exact hn
  · exact bounded_of_sizes hn rfl
  · exact bounded_of_sizes hn (by simp [sizes, benchBeam])

theorem sizes_setDepthRequest (body : List Byte) (s : State) : sizes (setDepthRequest body s).state = sizes s := by
  unfold setDepthRequest setDepth
  repeat' split
  all_goals rfl

theorem bounded_takeModeAuto {s : State} (body : List Byte) (h : Bounded s) : Bounded (takeModeAuto body s).state := by
  unfold takeModeAuto setModeAuto
  split <;> [split; exact h] <;> [exact bounded_enterAuto h; exact h]

theorem bounded_resume {s : State} (h : Bounded s) : Bounded (resume s).state := by
  unfold resume
  split <;> [exact bounded_enterAuto h; exact h]

theorem sizes_releaseControl (new : CtlState) (s : State) : sizes (releaseControl new s) = sizes s := by
  simp [sizes]

theorem sizes_takeModeManual (body : List Byte) (s : State) : sizes (takeModeManual body s).state = sizes s := by
  unfold takeModeManual setModeManual
  split <;> [split; rfl] <;> [exact sizes_releaseControl _ s; rfl]

theorem sizes_clearTrip (s : State) : sizes (clearTrip s).state = sizes s := by
  unfold clearTrip
  split <;> [rfl; exact sizes_releaseControl _ s]

theorem bounded_handover {s : State} (body : List Byte) (h : Bounded s) : Bounded (handover body s).state := by
  have taken (c : BeamCode) : Bounded (handoverTo c s) := by
    have ht : Bounded (takeOver c (mapBeams standDown s)) :=
      bounded_latchHere _ _ (bounded_setBeam _ _ (bounded_of_sizes h rfl))
    exact bounded_reportRecovered (bounded_of_sizes ht rfl)
  unfold handover
  split <;> [exact h; split] <;> [exact taken _; exact h]

theorem sizes_adopt (body : List Byte) (s : State) : sizes (adopt body s).state = sizes s := by
  unfold adopt adoptBeam
  repeat' split
  all_goals rfl

theorem bounded_testStart {s : State} (body : List Byte) (h : Bounded s) : Bounded (testStart body s).state := by
  have started (d : Dir) (c : BeamCode) (b : Int) : Bounded (startTest d c b s) :=
    bounded_firstStep (bounded_enterTest (bounded_of_sizes h rfl))
  unfold testStart
  split <;> [exact h; skip]
  split <;> [exact h; skip]
  split <;> [exact h; skip]
  split <;> [exact h; skip]
  split <;> [exact h; skip]
  split <;> [exact started _ _ _; exact h]

theorem bounded_testAbort {s : State} (h : Bounded s) : Bounded (testAbort s).state := by
  unfold testAbort
  split <;> [exact bounded_endTest _ h; exact h]

theorem sizes_testApply (s : State) : sizes (testApply s).state = sizes s := by
  obtain hs | ⟨d, i, m, -, -, -, hs⟩ := testApply_state s <;> rw [hs]
  rfl

/-- FWD_WRITE replaces an entry of the table (R165). -/
theorem bounded_fwdWrite {s : State} (body : List Byte) (h : Bounded s) : Bounded (fwdWrite body s).state := by
  unfold fwdWrite writeFwd
  split <;> [split; exact h] <;> [split; exact h] <;> [skip; exact h]
  exact ⟨h.portU, h.portD, (List.length_set ..).trans h.fwd, h.counters, h.node⟩

theorem sizes_fwdRead (body : List Byte) (s : State) : sizes (fwdRead body s).state = sizes s := by
  unfold fwdRead
  dsimp only
  split <;> rfl

theorem sizes_maskWrite (body : List Byte) (s : State) : sizes (maskWrite body s).state = sizes s := by
  unfold maskWrite writeMask
  repeat' split
  all_goals rfl

theorem sizes_traceRead (s : State) : sizes (traceRead s).state = sizes s := by
  unfold traceRead
  split <;> rfl

theorem bounded_burstOf {s : State} (u : Trace) (h : Bounded s) : Bounded (burst { s with trace := u }) :=
  bounded_burst (bounded_of_sizes h rfl)

theorem bounded_traceRewind {s : State} (h : Bounded s) : Bounded (traceRewind s).state := by
  unfold traceRewind
  split <;> [exact h; exact bounded_burstOf _ h]

theorem sizes_traceGate (body : List Byte) (s : State) : sizes (traceGate body s).state = sizes s := by
  unfold traceGate
  split <;> rfl

theorem bounded_identify {s : State} (broadcast : Bool) (r : Request) (h : Bounded s) :
    Bounded (identify broadcast r s) := by
  have hf := bounded_forwardRequest (if broadcast then broadcastNode else s.node) codeIdentify r h
  unfold identify
  dsimp only
  split <;> exact bounded_sendReply codeIdentify r hf

theorem bounded_takeManual {s : State} (f : Arrival) (h : Bounded s) : Bounded (takeManual f s) := by
  have overrides : Bounded (override s) := bounded_latchHere _ _ (bounded_of_sizes h (by simp [sizes]))
  unfold takeManual
  split <;> [exact bounded_count _ _ h; skip]
  unfold gateManual
  split
  case h_1 | h_2 => exact bounded_forwardToD _ h
  case h_6 => split <;> [exact bounded_forwardToD _ (bounded_endTest _ h); exact h]
  case h_7 => exact h
  all_goals split <;> [exact bounded_forwardToD _ overrides; exact h]

theorem bounded_passUnclassified {s : State} (p : Port) (f : CanFrame) (h : Bounded s) :
    Bounded (passUnclassified p f s) := by
  unfold passUnclassified
  split <;> [exact bounded_forwardFrom p f h; exact h]

/-! ## The step -/

theorem bounded_exec {s : State} (c : Instr) (h : Bounded s) : Yields Bounded (exec c s) := by
  cases c with
  | powerOn straps => exact bounded_powerOn straps s
  | strike f => exact bounded_takeStrike f h
  | tilt f => exact bounded_takeTiltFrame f h
  | sync f => exact bounded_takeSync (bounded_forwardTaken .d clsSync f h)
  | manualValve f => exact bounded_takeManual f h
  | forwardedFrame p id format data => exact bounded_forwardByTable p id _ h
  | unclassifiedFrame p f => exact bounded_passUnclassified p f h
  | mgmtReqShortHeader prio src tag format byte => exact bounded_count .malformed 1 h
  | unknownRequest code r => exact bounded_sendReply code r (bounded_forwardRequest s.node code r h)
  | identify broadcast r => exact bounded_identify broadcast r h
  | snapshot r => exact bounded_answerRequest h fun _ t ht => bounded_noteTarget t.chain.s ht
  | reset r => exact bounded_takeReset r h
  | clearRun r => exact bounded_answerRequest h fun _ t ht => bounded_clearRun ht
  | paramRead r => exact bounded_quietRequest h sizes_paramRead
  | paramWrite r => exact bounded_answerRequest h fun body t ht => bounded_paramWrite body ht
  | loadBegin r => exact bounded_quietRequest h sizes_loadBegin
  | loadEntry r => exact bounded_takeLoadEntry r h
  | loadCommit r => exact bounded_answerRequest h fun body t ht => bounded_loadCommit body ht
  | loadCancel r => exact bounded_quietRequest h sizes_loadCancel
  | readEntry r => exact bounded_quietRequest h sizes_readEntry
  | openRun r => exact bounded_quietRequest h sizes_openRunRequest
  | closeRun r => exact bounded_answerRequest h fun _ t ht => bounded_closeRun ht
  | bench r => exact bounded_answerRequest h fun body t ht => bounded_bench body ht
  | setDepth r => exact bounded_quietRequest h sizes_setDepthRequest
  | setModeAuto r => exact bounded_answerRequest h fun body t ht => bounded_takeModeAuto body ht
  | setModeManual r => exact bounded_quietRequest h sizes_takeModeManual
  | resume r => exact bounded_answerRequest h fun _ t ht => bounded_resume ht
  | clearTrip r => exact bounded_quietRequest h fun _ => sizes_clearTrip
  | handover r => exact bounded_answerRequest h fun body t ht => bounded_handover body ht
  | adopt r => exact bounded_quietRequest h sizes_adopt
  | testStart r => exact bounded_answerRequest h fun body t ht => bounded_testStart body ht
  | testAbort r => exact bounded_answerRequest h fun _ t ht => bounded_testAbort ht
  | testResult r => exact bounded_quietRequest h fun _ _ => rfl
  | testApply r => exact bounded_quietRequest h fun _ => sizes_testApply
  | fwdWrite r => exact bounded_answerRequest h fun body t ht => bounded_fwdWrite body ht
  | fwdRead r => exact bounded_quietRequest h sizes_fwdRead
  | traceRead r => exact bounded_quietRequest h fun _ => sizes_traceRead
  | traceMark r => exact bounded_answerRequest h fun _ t ht => bounded_burstOf _ ht
  | traceUnmark r => exact bounded_answerRequest h fun _ t ht => bounded_burstOf _ ht
  | traceRewind r => exact bounded_answerRequest h fun _ t ht => bounded_traceRewind ht
  | traceGate r => exact bounded_quietRequest h sizes_traceGate
  | eventRead r => exact bounded_quietRequest h fun _ _ => rfl
  | maskWrite r => exact bounded_quietRequest h sizes_maskWrite
  | countersRead r => exact bounded_quietRequest h fun _ _ => rfl
  | countersClear r =>
    refine bounded_answerRequest h fun _ t ht => ⟨ht.portU, ht.portD, ht.fwd, ?_, ht.node⟩
    constructor <;> exact Nat.zero_le _
  | portUFrameDeparture => exact bounded_departU h
  | arbiterTakesFrame => exact bounded_arbiterTakes h
  | lineLevelChange l high => exact bounded_lineLevelChange l high h
  | acceptedOdoEdge => exact bounded_filterExpiry .odo h
  | acceptedDirChange => exact bounded_filterExpiry .dir h
  | acceptedDigChange => exact bounded_filterExpiry .dig h
  | stopAcceptedActive =>
    show Bounded (if s.lines.stop.active then s else filterExpiry .stop s)
    split <;> [exact h; exact bounded_filterExpiry .stop h]
  | stopRelease =>
    show Bounded (if s.lines.stop.active then filterExpiry .stop s else s)
    split <;> [exact bounded_filterExpiry .stop h; exact h]
  | strikeTimeout c => exact bounded_strikeTimeout c h
  | referenceTimeout => exact bounded_referenceTimeout h
  | fadingTimeout => exact bounded_fadingTimeout h
  | tiltExpiry => exact bounded_tiltExpiry h
  | outputTick => exact bounded_outputTick h
  | syncTimeout => exact bounded_syncTimeout h
  | holdDistanceExpiry =>
    show Bounded (if holdDistanceDue s then filterExpiry .odo s else s)
    split <;> [exact bounded_filterExpiry .odo h; exact h]
  | dwellClearMoment => exact bounded_firstStep h
  | stepTimerExpiry => exact bounded_stepTimerExpiry h
  | noBeamTimeout => exact bounded_noBeamTimeout h

end Sys2Proof.Machine
end

section
/-! The chainage unit's ranges (R66 to R72, R84, R178): every command keeps them. -/

namespace Sys2Proof.Machine

/-! ## The chainage unit -/

theorem chainSound_of_eq {s t : State} (h : ChainSound s) (hchain : t.chain = s.chain)
    (hstep : t.params.traceStep = s.params.traceStep) : ChainSound t := by
  obtain ⟨mark, limit, remainder, index, hold⟩ := h
  exact ⟨by rwa [hchain], by rwa [hchain], by rwa [hchain], by rwa [hchain, hstep], by rwa [hchain]⟩

/-- All that `ChainSound` reads, but that P_TRACE_STEP stands among the parameters. -/
def chainage (s : State) : Chain × Params := (s.chain, s.params)

theorem chainSound_of_chainage {s t : State} (h : ChainSound s) (hc : chainage t = chainage s) : ChainSound t := by
  simp only [chainage, Prod.mk.injEq] at hc
  obtain ⟨hchain, hparams⟩ := hc
  exact chainSound_of_eq h hchain (by rw [hparams])

theorem chainSound_besideQueues : BesideQueues ChainSound := by
  rintro s t ⟨-, -, hparams, -, hchain, -⟩ h
  exact chainSound_of_eq h hchain (by rw [hparams])

@[simp] theorem moveEdge_chain (w : Bool) (s : State) : (moveEdge w s).chain = moveChain w s := by
  unfold moveEdge
  dsimp only
  split <;> simp

/-- An edge leaves the chainage in its range, the remainder below a millimetre and the index in step (R66 to R68). -/
theorem moveChain_bounds (w : Bool) (s : State) : (moveChain w s).s ≤ chainageMax ∧ (moveChain w s).r < 1000 ∧
    (moveChain w s).n = (moveChain w s).s / s.params.traceStep := by
  refine ⟨?_, ?_, rfl⟩
  · simp only [moveChain, clampInt_eq (show (0 : Int) ≤ chainageMax by decide)]
    omega
  · simp only [moveChain, edgeMove]
    split <;> omega

/-- A backward edge does not raise the chainage (R67, R68). -/
theorem moveChain_backward_le {s : State} : (moveChain false s).s ≤ s.chain.s := by
  simp only [moveChain, edgeResult, clampInt_eq (show (0 : Int) ≤ chainageMax by decide)]
  simp only [Bool.false_eq_true, if_false]
  omega

theorem chainSound_addHoldDistance {s : State} (m : Nat) (h : ChainSound s) : ChainSound (addHoldDistance m s) := by
  have hd : ChainSound { s with chain := { s.chain with dH := holdDistanceAfter m s } } :=
    ⟨h.mark, h.limit, h.remainder, h.index, min_le_left _ _⟩
  unfold addHoldDistance compareHoldDistance
  split <;> [split; exact h] <;> [exact chainSound_of_chainage hd (by simp [chainage]); exact hd]

/-- A forward edge raises the mark to the chainage, a backward one leaves the chainage below the mark (R67 to R72). -/
theorem chainSound_countEdge {s : State} (w : Bool) (h : ChainSound s) : ChainSound (countEdge w s) := by
  obtain ⟨hlimit, hremainder, hindex⟩ := moveChain_bounds w s
  refine chainSound_addHoldDistance _ ?_
  cases w with
  | false =>
    have hmark : (moveChain false s).s ≤ s.chain.h := moveChain_backward_le.trans h.mark
    exact ⟨by simpa using hmark, by simpa using h.limit, by simpa using hremainder, by simpa using hindex,
      by simpa using h.hold⟩
  | true =>
    exact ⟨by simp, by simpa using ⟨h.limit, hlimit⟩, by simpa using hremainder, by simpa using hindex,
      by simpa using h.hold⟩

theorem chainSound_odoEdge {s : State} (w : Bool) (h : ChainSound s) : ChainSound (odoEdge w s) := by
  unfold odoEdge
  split
  · exact chainSound_of_chainage (chainSound_countEdge w h) (by simp [chainage])
  · exact chainSound_of_chainage h (by simp [chainage])

theorem chainSound_acceptLine {s : State} (l : Line) (h : ChainSound s) : ChainSound (acceptLine l s) := by
  have hl : ChainSound (setLine l { lineOf s l with active := !(lineOf s l).active, since := none } s) :=
    chainSound_of_chainage h (by simp [chainage])
  unfold acceptLine
  cases l with
  | odo => dsimp only; split <;> [exact chainSound_odoEdge _ hl; exact hl]
  | dir | dig => exact hl
  | stop => dsimp only; split <;> [exact hl; exact chainSound_of_chainage hl (by simp [chainage])]

theorem chainSound_filterExpiry {s : State} (l : Line) (h : ChainSound s) : ChainSound (filterExpiry l s) := by
  unfold filterExpiry
  split <;> [exact chainSound_acceptLine l h; exact h]

theorem chainSound_lineLevelChange {s : State} (l : Line) (high : Bool) (h : ChainSound s) :
    ChainSound (lineLevelChange l high s) := by
  have set {t : State} (f : LineFilter) (ht : ChainSound t) : ChainSound (setLine l f t) :=
    chainSound_of_chainage ht (by simp [chainage])
  have start {t : State} (ht : ChainSound t) : ChainSound (startCandidate l t) := by
    unfold startCandidate
    dsimp only
    split <;> [split; exact ht] <;> [exact chainSound_acceptLine l (set _ ht); exact set _ ht]
  unfold lineLevelChange
  dsimp only
  split <;> [exact set _ h; exact start (set _ h)]

/-- The fading that moves AUTO to HOLD sets d_H to 0 and leaves the rest of the chainage unit (R72, R84). -/
theorem chainSound_reportFading {s : State} (c : BeamCode) (h : ChainSound s) : ChainSound (reportFading c s) := by
  have hd : ChainSound { s with chain := { s.chain with dH := 0 } } :=
    ⟨h.mark, h.limit, h.remainder, h.index, Nat.zero_le _⟩
  unfold reportFading
  split <;> [exact chainSound_of_chainage hd (by simp [chainage]); exact h]

theorem chainSound_referenceTimeout {s : State} (h : ChainSound s) : ChainSound (referenceTimeout s) := by
  have faded (c : BeamCode) : ChainSound (fadeReference c s) := by
    unfold fadeReference
    exact chainSound_reportFading c (chainSound_of_chainage h (by simp [chainage]))
  unfold referenceTimeout
  split <;> [split; exact h] <;> [exact faded _; exact h]

theorem chainSound_expireAll {s : State} (h : ChainSound s) : ChainSound (expireAll s) := by
  have hb : ChainSound (expireBeams s) := by
    unfold expireBeams
    exact chainSound_of_chainage h (by simp [chainage])
  rw [expireAll_eq]
  split <;> [exact chainSound_referenceTimeout hb; exact chainSound_of_chainage hb (by simp [chainage])]

/-! ## Parameters, runs and resets -/

theorem chain_modeEffects (s : State) :
    (∀ old, (depthModeEffect old s).chain = s.chain ∧ (depthModeEffect old s).params = s.params) ∧
    (∀ old, (travelModeEffect old s).chain = s.chain ∧ (travelModeEffect old s).params = s.params) ∧
    (∀ old, (tickSourceEffect old s).chain = s.chain ∧ (tickSourceEffect old s).params = s.params) ∧
    (tickEffect s).chain = s.chain ∧ (tickEffect s).params = s.params := by
  refine ⟨fun old => ?_, fun old => ?_, fun old => ?_, ?_⟩
  · unfold depthModeEffect
    split <;> [split; skip] <;> simp
  · unfold travelModeEffect
    split <;> simp
  · unfold tickSourceEffect
    split <;> simp
  · unfold tickEffect
    dsimp only
    split <;> simp

theorem chainSound_paramEffect {s : State} (id : Nat) (old : Params) (h : ChainSound s) :
    ChainSound (paramEffect id old s) := by
  obtain ⟨hd, ht, hsrc, htick⟩ := chain_modeEffects s
  unfold paramEffect
  split
  · exact chainSound_of_chainage h (by simp [chainage])
  · exact chainSound_expireAll h
  · exact chainSound_of_chainage h (by simp [chainage])
  · exact chainSound_filterExpiry _ h
  · exact chainSound_filterExpiry _ h
  · exact chainSound_filterExpiry _ h
  · exact chainSound_filterExpiry _ h
  · exact chainSound_of_eq h rfl rfl
  · exact chainSound_of_eq h (by simp [htick]) (by simp [htick])
  · exact chainSound_of_eq h (by simp [hsrc]) (by simp [hsrc])
  · exact chainSound_of_chainage h (by simp [chainage])
  · exact chainSound_of_eq h (by simp [hd]) (by simp [hd])
  · exact chainSound_of_eq h (by simp [ht]) (by simp [ht])
  · exact ⟨h.mark, h.limit, h.remainder, rfl, h.hold⟩
  · exact chainSound_of_chainage h (by simp [chainage])
  · exact chainSound_of_chainage h (by simp [chainage])
  · exact chainSound_of_chainage h (by simp [chainage])
  · exact h

/-- No parameter but P_TRACE_STEP is the trace step (R199). -/
theorem traceStep_storeParam {id : Nat} (hid : id ≠ 36) (v : Nat) (p : Params) :
    (storeParam id v p).traceStep = p.traceStep := by
  unfold storeParam
  split
  case h_36 => exact absurd rfl hid
  all_goals rfl

/-- A write of P_TRACE_STEP forms the boundary index anew (R178). -/
theorem chainSound_carryWrite {s : State} (id v : Nat) (h : ChainSound s) : ChainSound (carryWrite id v s) := by
  by_cases hid : id = 36
  · subst hid
    exact ⟨h.mark, h.limit, h.remainder, rfl, h.hold⟩
  · exact chainSound_paramEffect id s.params (chainSound_of_eq h rfl (traceStep_storeParam hid v s.params))

theorem chainSound_paramWrite {s : State} (body : List Byte) (h : ChainSound s) :
    ChainSound (paramWrite body s).state := by
  obtain hs | ⟨id, v, hs⟩ := paramWrite_state body s <;> rw [hs] <;> [exact h; exact chainSound_carryWrite id v h]

/-- OPEN_RUN puts chainage and mark at a start within the range (R66, R78). -/
theorem chainSound_openRunRequest {s : State} (body : List Byte) (h : ChainSound s) :
    ChainSound (openRunRequest body s).state := by
  have opened {start : Nat} (g : Int) (discard : Bool) (hstart : start ≤ chainageMax) :
      ChainSound (openRun start g discard s) :=
    ⟨by simp [openRun], by simpa [openRun] using hstart, by simp [openRun], by simp [openRun],
      by simpa [openRun] using h.hold⟩
  unfold openRunRequest
  split <;> [skip; exact h]
  unfold takeOpenRun
  split <;> [exact h; split] <;> [exact h; skip]
  rename_i hrange
  obtain ⟨hstart, -⟩ := not_or.1 hrange
  split <;> [exact h; split] <;> [exact h; split] <;> [exact h; exact opened _ _ (not_lt.1 hstart)]

theorem chainSound_of_reset {t : State} (ht : t.chain = resetChain) : ChainSound t := by
  constructor <;> simp [ht, resetChain]

theorem chainSound_masterReset (s : State) : ChainSound (masterReset s) := by
  rw [masterReset_eq]
  exact chainSound_of_reset rfl

theorem chainSound_departU {s : State} (h : ChainSound s) : ChainSound (departU s) := by
  unfold departU afterDeparture
  split <;> [exact h; split] <;> [exact chainSound_masterReset _; exact chainSound_of_chainage h (by simp [chainage])]

/-! ## Commands that leave the chainage unit and the parameters alone -/

theorem chainage_takeStrike (f : Arrival) (s : State) : chainage (takeStrike f s) = chainage s := by
  unfold takeStrike
  split <;> simp [chainage, handleStrike]

theorem chainage_takeTiltFrame (f : Arrival) (s : State) : chainage (takeTiltFrame f s) = chainage s := by
  unfold takeTiltFrame
  split <;> simp [chainage]

theorem chainage_takeManual (f : Arrival) (s : State) : chainage (takeManual f s) = chainage s := by
  unfold takeManual gateManual override
  repeat' split
  all_goals simp [chainage]

theorem chainage_passUnclassified (p : Port) (f : CanFrame) (s : State) :
    chainage (passUnclassified p f s) = chainage s := by
  unfold passUnclassified
  split <;> simp [chainage]

theorem chainage_paramRead (body : List Byte) (s : State) : chainage (paramRead body s).state = chainage s := by
  unfold paramRead
  dsimp only
  split <;> rfl

theorem chainage_loadBegin (body : List Byte) (s : State) : chainage (loadBegin body s).state = chainage s := by
  unfold loadBegin
  repeat' split
  all_goals rfl

theorem chainage_loadEntry (sn : Session) (body : List Byte) (s : State) :
    chainage (loadEntry sn body s).state = chainage s := by
  unfold loadEntry
  repeat' split
  all_goals rfl

theorem chainage_loadCommit (body : List Byte) (s : State) : chainage (loadCommit body s).state = chainage s := by
  have profile (n : Nat) : chainage (commitProfile n s) = chainage s := by
    unfold commitProfile
    dsimp only
    split <;> simp [chainage]
  unfold loadCommit
  split <;> [skip; rfl]
  unfold commitSession
  split <;> [rfl; skip]
  split <;> [rfl; skip]
  split <;> [rfl; skip]
  split
  · exact profile _
  all_goals split <;> rfl

theorem chainage_loadCancel (body : List Byte) (s : State) : chainage (loadCancel body s).state = chainage s := by
  unfold loadCancel cancelKind
  repeat' split
  all_goals rfl

theorem chainage_readEntry (body : List Byte) (s : State) : chainage (readEntry body s).state = chainage s := by
  unfold readEntry readProfile readTiltEntry readPoint
  dsimp only
  repeat' split
  all_goals rfl

theorem chainage_closeRun (s : State) : chainage (closeRun s).state = chainage s := by
  unfold closeRun
  split <;> simp [chainage, done, refuse]

theorem chainage_bench (body : List Byte) (s : State) : chainage (bench body s).state = chainage s := by
  obtain hb | ⟨-, c, d, hb⟩ := bench_state body s <;> rw [hb]
  obtain hf | hf | ⟨v, hf | hf⟩ := finishBench_state c d s <;> rw [hf] <;> simp [chainage, benchBeam]

theorem chainage_setDepthRequest (body : List Byte) (s : State) :
    chainage (setDepthRequest body s).state = chainage s := by
  unfold setDepthRequest setDepth
  repeat' split
  all_goals rfl

theorem chainage_takeModeAuto (body : List Byte) (s : State) : chainage (takeModeAuto body s).state = chainage s := by
  unfold takeModeAuto setModeAuto
  split <;> [split; skip] <;> rfl

theorem chainage_releaseControl (new : CtlState) (s : State) : chainage (releaseControl new s) = chainage s := by
  simp [chainage]

theorem chainage_takeModeManual (body : List Byte) (s : State) :
    chainage (takeModeManual body s).state = chainage s := by
  unfold takeModeManual setModeManual
  split <;> [split; rfl] <;> [exact chainage_releaseControl _ s; rfl]

theorem chainage_resume (s : State) : chainage (resume s).state = chainage s := by
  unfold resume
  split <;> rfl

theorem chainage_clearTrip (s : State) : chainage (clearTrip s).state = chainage s := by
  unfold clearTrip
  split <;> [rfl; exact chainage_releaseControl _ s]

theorem chainage_handover (body : List Byte) (s : State) : chainage (handover body s).state = chainage s := by
  unfold handover
  repeat' split
  all_goals simp [chainage, done, refuse, handoverTo]

theorem chainage_adopt (body : List Byte) (s : State) : chainage (adopt body s).state = chainage s := by
  unfold adopt adoptBeam
  repeat' split
  all_goals rfl

theorem chainage_testStart (body : List Byte) (s : State) : chainage (testStart body s).state = chainage s := by
  unfold testStart
  repeat' split
  all_goals simp [chainage, done, refuse, startTest]

theorem chainage_testAbort (s : State) : chainage (testAbort s).state = chainage s := by
  unfold testAbort
  split <;> simp [chainage, done, refuse]

theorem chainage_testApply (s : State) : chainage (testApply s).state = chainage s := by
  obtain hs | ⟨d, i, m, -, -, -, hs⟩ := testApply_state s <;> rw [hs]
  rfl

theorem chainage_fwdWrite (body : List Byte) (s : State) : chainage (fwdWrite body s).state = chainage s := by
  unfold fwdWrite writeFwd
  repeat' split
  all_goals rfl

theorem chainage_fwdRead (body : List Byte) (s : State) : chainage (fwdRead body s).state = chainage s := by
  unfold fwdRead
  dsimp only
  split <;> rfl

theorem chainage_maskWrite (body : List Byte) (s : State) : chainage (maskWrite body s).state = chainage s := by
  unfold maskWrite writeMask
  repeat' split
  all_goals rfl

theorem chainage_traceRead (s : State) : chainage (traceRead s).state = chainage s := by
  unfold traceRead
  split <;> rfl

theorem chainage_burst (s : State) (u : Trace) : chainage (burst { s with trace := u }) = chainage s := by
  simp [chainage]

theorem chainage_traceRewind (s : State) : chainage (traceRewind s).state = chainage s := by
  unfold traceRewind
  split <;> [rfl; exact chainage_burst s _]

theorem chainage_traceGate (body : List Byte) (s : State) : chainage (traceGate body s).state = chainage s := by
  unfold traceGate
  split <;> rfl

theorem chainage_noteTarget (s : State) : chainage (noteTarget s.chain.s s) = chainage s := by
  simp [chainage]

/-- A request whose rule leaves the chainage unit and the parameters alone keeps the unit's ranges. -/
theorem chainSound_quietRequest {code : Byte} {n : Nat} {r : Request} {act : List Byte → State → Answer} {s : State}
    (h : ChainSound s) (hact : ∀ body t, chainage (act body t).state = chainage t) :
    ChainSound (answerRequest code n r act s) :=
  answerRequest_keeps chainSound_besideQueues (fun body t ht => chainSound_of_chainage ht (hact body t)) h

theorem chainSound_takeLoadEntry {s : State} (r : Request) (h : ChainSound s) : ChainSound (takeLoadEntry r s) := by
  unfold takeLoadEntry
  split
  · exact refusal_keeps chainSound_besideQueues codeLoadEntry r .sequence h
  · exact chainSound_quietRequest h (chainage_loadEntry _)

theorem chainSound_exec {s : State} (c : Instr) (h : ChainSound s) : Yields ChainSound (exec c s) := by
  have beside := chainSound_besideQueues
  cases c with
  | powerOn straps =>
    show ChainSound (powerOn straps s)
    rw [powerOn_eq]
    exact chainSound_of_reset rfl
  | strike f => exact chainSound_of_chainage h (chainage_takeStrike f s)
  | tilt f => exact chainSound_of_chainage h (chainage_takeTiltFrame f s)
  | sync f => exact chainSound_of_chainage (t := takeSync (forwardTaken .d clsSync f s)) h (by simp [chainage])
  | manualValve f => exact chainSound_of_chainage h (chainage_takeManual f s)
  | forwardedFrame p id format data =>
    exact chainSound_of_chainage (t := forwardByTable p id _ s) h (by simp [chainage])
  | unclassifiedFrame p f => exact chainSound_of_chainage h (chainage_passUnclassified p f s)
  | mgmtReqShortHeader prio src tag format byte =>
    exact chainSound_of_chainage (t := dropMalformed s) h (by simp [chainage])
  | unknownRequest code r => exact refusal_keeps beside code r .unknown h
  | identify broadcast r => exact identify_keeps beside broadcast r h
  | snapshot r => exact chainSound_quietRequest h fun _ => chainage_noteTarget
  | reset r => exact takeReset_keeps beside chainSound_masterReset r h
  | clearRun r => exact answerRequest_keeps beside (fun _ _ _ => chainSound_of_reset rfl) h
  | paramRead r => exact chainSound_quietRequest h chainage_paramRead
  | paramWrite r => exact answerRequest_keeps beside (fun body _ ht => chainSound_paramWrite body ht) h
  | loadBegin r => exact chainSound_quietRequest h chainage_loadBegin
  | loadEntry r => exact chainSound_takeLoadEntry r h
  | loadCommit r => exact chainSound_quietRequest h chainage_loadCommit
  | loadCancel r => exact chainSound_quietRequest h chainage_loadCancel
  | readEntry r => exact chainSound_quietRequest h chainage_readEntry
  | openRun r => exact answerRequest_keeps beside (fun body _ ht => chainSound_openRunRequest body ht) h
  | closeRun r => exact chainSound_quietRequest h fun _ => chainage_closeRun
  | bench r => exact chainSound_quietRequest h chainage_bench
  | setDepth r => exact chainSound_quietRequest h chainage_setDepthRequest
  | setModeAuto r => exact chainSound_quietRequest h chainage_takeModeAuto
  | setModeManual r => exact chainSound_quietRequest h chainage_takeModeManual
  | resume r => exact chainSound_quietRequest h fun _ => chainage_resume
  | clearTrip r => exact chainSound_quietRequest h fun _ => chainage_clearTrip
  | handover r => exact chainSound_quietRequest h chainage_handover
  | adopt r => exact chainSound_quietRequest h chainage_adopt
  | testStart r => exact chainSound_quietRequest h chainage_testStart
  | testAbort r => exact chainSound_quietRequest h fun _ => chainage_testAbort
  | testResult r => exact chainSound_quietRequest h fun _ _ => rfl
  | testApply r => exact chainSound_quietRequest h fun _ => chainage_testApply
  | fwdWrite r => exact chainSound_quietRequest h chainage_fwdWrite
  | fwdRead r => exact chainSound_quietRequest h chainage_fwdRead
  | traceRead r => exact chainSound_quietRequest h fun _ => chainage_traceRead
  | traceMark r => exact chainSound_quietRequest h fun _ t => chainage_burst t _
  | traceUnmark r => exact chainSound_quietRequest h fun _ t => chainage_burst t _
  | traceRewind r => exact chainSound_quietRequest h fun _ => chainage_traceRewind
  | traceGate r => exact chainSound_quietRequest h chainage_traceGate
  | eventRead r => exact chainSound_quietRequest h fun _ _ => rfl
  | maskWrite r => exact chainSound_quietRequest h chainage_maskWrite
  | countersRead r => exact chainSound_quietRequest h fun _ _ => rfl
  | countersClear r => exact chainSound_quietRequest h fun _ _ => rfl
  | portUFrameDeparture => exact chainSound_departU h
  | arbiterTakesFrame =>
    exact chainSound_of_chainage (t := { s with portD := arbiterTakes s.portD }) h (by simp [chainage])
  | lineLevelChange l high => exact chainSound_lineLevelChange l high h
  | acceptedOdoEdge => exact chainSound_filterExpiry .odo h
  | acceptedDirChange => exact chainSound_filterExpiry .dir h
  | acceptedDigChange => exact chainSound_filterExpiry .dig h
  | stopAcceptedActive =>
    show ChainSound (if s.lines.stop.active then s else filterExpiry .stop s)
    split <;> [exact h; exact chainSound_filterExpiry .stop h]
  | stopRelease =>
    show ChainSound (if s.lines.stop.active then filterExpiry .stop s else s)
    split <;> [exact chainSound_filterExpiry .stop h; exact h]
  | strikeTimeout c => exact chainSound_of_chainage (t := strikeTimeout c s) h (by simp [chainage])
  | referenceTimeout => exact chainSound_referenceTimeout h
  | fadingTimeout => exact chainSound_of_chainage (t := fadingTimeout s) h (by simp [chainage])
  | tiltExpiry => exact chainSound_of_chainage (t := tiltExpiry s) h (by simp [chainage])
  | outputTick => exact chainSound_of_chainage (t := outputTick s) h (by simp [chainage])
  | syncTimeout => exact chainSound_of_chainage (t := syncTimeout s) h (by simp [chainage])
  | holdDistanceExpiry =>
    show ChainSound (if holdDistanceDue s then filterExpiry .odo s else s)
    split <;> [exact chainSound_filterExpiry .odo h; exact h]
  | dwellClearMoment => exact chainSound_of_chainage (t := firstStep s) h (by simp [chainage])
  | stepTimerExpiry => exact chainSound_of_chainage (t := stepTimerExpiry s) h (by simp [chainage])
  | noBeamTimeout => exact chainSound_of_chainage (t := noBeamTimeout s) h (by simp [chainage])

end Sys2Proof.Machine

namespace Sys2Proof.Scope

open Machine

/-- Settles O5: every command keeps the bounds and the chainage unit's ranges, neither resting on the other. -/
theorem stepKeepsSizesAndChainage : Obligations.StepKeepsSizesAndChainage := fun _ _ ⟨hb, hc⟩ hst =>
  ⟨step_keeps (fun c _ h => bounded_exec c h) (fun _ _ _ _ h => bounded_of_sizes h rfl) hb hst,
    step_keeps (fun c _ h => chainSound_exec c h) (fun _ _ _ _ h => chainSound_of_eq h rfl rfl) hc hst⟩

end Sys2Proof.Scope
end

section
/-! The line filters: candidates and their acceptance (R61, R62, R65). -/

namespace Sys2Proof.Machine

/-! ## Levels and candidates -/

/-- STOP is ACTIVE at the low level, the other lines at the high one. -/
theorem levelActive_eq (l : Line) (high : Bool) : levelActive l high = if l = .stop then !high else high := by
  cases l <;> rfl

theorem lineLevelChange_of_back {l : Line} {high : Bool} {s : State}
    (hback : levelActive l high = (lineOf s l).active) :
    lineLevelChange l high s = setLine l ⟨high, (lineOf s l).active, none⟩ s :=
  if_pos hback

/-- A level away from the accepted state keeps a candidate already held. -/
theorem lineLevelChange_of_held {l : Line} {high : Bool} {s : State}
    (haway : levelActive l high ≠ (lineOf s l).active) (hheld : (lineOf s l).since.isSome = true) :
    lineLevelChange l high s = setLine l ⟨high, (lineOf s l).active, (lineOf s l).since⟩ s := by
  unfold lineLevelChange startCandidate
  rw [if_neg haway]
  obtain ⟨t, ht⟩ := Option.isSome_iff_exists.1 hheld
  simp [ht]

/-- A level away from the accepted state with no candidate held starts one; an ODO filter time of 0 accepts it. -/
theorem lineLevelChange_of_none {l : Line} {high : Bool} {s : State}
    (haway : levelActive l high ≠ (lineOf s l).active) (hnone : (lineOf s l).since = none) :
    lineLevelChange l high s =
      (let started := setLine l ⟨high, (lineOf s l).active, some s.now⟩ s
       if l = .odo ∧ s.params.odoFilt = 0 then acceptLine l started else started) := by
  unfold lineLevelChange startCandidate
  rw [if_neg haway]
  simp [haway, hnone]

/-- With a filter time of 0 an ODO candidate is due at once. -/
theorem filterExpiry_odo_at_once {s : State} {t : Clock} (ht : s.lines.odo.since = some t)
    (hzero : s.params.odoFilt = 0) : filterExpiry .odo s = acceptLine .odo s := by
  have hdue : filterDue .odo s = true := by simp [filterDue, lineOf, filterPassed, ht, hzero]
  exact if_pos hdue

/-! ## DIR, DIG and the release of STOP -/

theorem filterExpiry_eq (l : Line) (s : State) : filterExpiry l s =
    if (lineOf s l).since.any (fun t => filterPassed l t s) then acceptLine l s else s := by
  rw [filterExpiry, filterDue_eq]

/-- The release of STOP changes no state by itself (R65). -/
theorem acceptLine_stop_release {s : State} (hactive : s.lines.stop.active = true) : acceptLine .stop s =
    { s with lines := { s.lines with stop := ⟨s.lines.stop.high, false, none⟩ } } := by
  simp [acceptLine, lineOf, setLine, hactive]

end Sys2Proof.Machine

namespace Sys2Proof.Scope

open Machine

/-- Settles O39: the line unit's cases, one by one. -/
theorem lineFilters : Obligations.LineFilters := by
  intro s
  refine ⟨fun l high => ?_, ?_, ?_, ?_⟩
  · extract_lets f active moved
    have run : exec (.lineLevelChange l high) s = .next (lineLevelChange l high s) := rfl
    have hlevel : levelActive l high = active := levelActive_eq l high
    rw [run]
    refine ⟨fun hback => ?_, fun haway hheld => ?_, fun haway hnone hfilter => ?_, fun haway hnone hl hzero => ?_⟩
    · rw [lineLevelChange_of_back (hlevel.trans hback)]
    · rw [lineLevelChange_of_held (hlevel ▸ haway) hheld]
    · rw [lineLevelChange_of_none (hlevel ▸ haway) hnone]
      exact congrArg _ (if_neg hfilter)
    · have edge (t : State) : exec .acceptedOdoEdge t = .next (filterExpiry .odo t) := rfl
      rw [lineLevelChange_of_none (hlevel ▸ haway) hnone, edge]
      subst hl
      rw [filterExpiry_odo_at_once (s := moved (some s.now)) rfl hzero]
      exact congrArg _ (if_pos ⟨rfl, hzero⟩)
  · have run : exec .acceptedDirChange s = .next (filterExpiry .dir s) := rfl
    rw [run, filterExpiry_eq]
    rfl
  · have run : exec .acceptedDigChange s = .next (filterExpiry .dig s) := rfl
    rw [run, filterExpiry_eq]
    rfl
  · have run : exec .stopRelease s = .next (if s.lines.stop.active then filterExpiry .stop s else s) := rfl
    rw [run]
    cases hactive : s.lines.stop.active with
    | false => simp [hactive]
    | true =>
      rw [filterExpiry_eq, acceptLine_stop_release hactive]
      simp only [hactive, true_and, if_true]
      rfl

end Sys2Proof.Scope
end

section
/-! An accepted ODO edge (R63, R64, R67 to R72, R86, R137). -/

namespace Sys2Proof.Machine

/-! ## The edge's direction and selection -/

theorem edgeForward_iff (s : State) : edgeForward s = true ↔
    s.params.dirPol = .normal ∧ s.lines.dir.active = false ∨
      s.params.dirPol = .inverted ∧ s.lines.dir.active = true := by
  unfold edgeForward
  cases s.params.dirPol <;> simp

/-- P_ODO_EDGE selects the changes to ACTIVE, those to INACTIVE, or both (R63). -/
theorem edgeSelected_not_iff (active : Bool) (s : State) : edgeSelected (!active) s = true ↔
    s.params.odoEdge = .both ∨ (s.params.odoEdge = .rising ∧ active = false) ∨
      (s.params.odoEdge = .falling ∧ active = true) := by
  unfold edgeSelected
  cases s.params.odoEdge <;> simp

/-! ## The steps of R69 -/

/-- The clamp of the chainage (R68). -/
theorem moveChain_eq (w : Bool) (s : State) : moveChain w s = { s.chain with
    s := (max 0 (min (edgeResult w s) 5000000)).toNat
    r := if edgeResult w s < 0 ∨ 5000000 < edgeResult w s then 0 else (edgeMove s).2
    n := (max 0 (min (edgeResult w s) 5000000)).toNat / s.params.traceStep } := by
  simp only [moveChain, clampInt_eq (show (0 : Int) ≤ chainageMax by decide)]
  rfl

theorem edgeLimited_iff (w : Bool) (s : State) : edgeLimited w s = true ↔
    w = true ∧ 5000000 ≤ edgeResult w s ∨ ¬ w = true ∧ edgeResult w s ≤ 0 := by
  unfold edgeLimited
  cases w with
  | false => simp
  | true => exact decide_eq_true_iff.trans (by simp [chainageMax])

theorem checkTakeover_eq (s : State) : checkTakeover s =
    if s.store.takeover.any (fun t => t ≤ s.chain.s) then swapped s else s := by
  unfold checkTakeover
  cases s.store.takeover <;> simp [swapBanks_eq]

theorem crossBoundaries_eq (n : Nat) (s : State) : crossBoundaries n s =
    (List.range (s.chain.n - n)).foldl (fun t k => crossing ((n + 1 + k) * s.params.traceStep ≤ s.chain.h)
      ((n + 1 + k) * s.params.traceStep) t) s := by
  rw [crossBoundaries, crossedBoundaries, List.foldl_map]

/-- In HOLD the movement joins d_H, and beyond P_HOLD_DIST the state becomes SUSPENDED (R72, R86). -/
theorem addHoldDistance_eq (m : Nat) (s : State) : addHoldDistance m s =
    (let held : State := { s with chain := { s.chain with dH := holdDistanceAfter m s } }
     if s.ctl.state = .hold then
      (if s.params.holdDist < holdDistanceAfter m s then suspendedEntered held else held)
     else s) := by
  unfold addHoldDistance compareHoldDistance
  by_cases hhold : s.ctl.state = .hold
  · simp only [hhold, if_true, reportSuspend_of_hold (s := { s with
      chain := { s.chain with dH := holdDistanceAfter m s } }) hhold]
  · simp only [hhold, if_false]

/-- An edge hands its movement to a running test, which no step of the counting started or ended (R63, R137). -/
theorem odoEdge_eq (w : Bool) (s : State) : odoEdge w s =
    (let counted := if s.run.isOpen = true then countEdge w s else s
     if (testRun s).isSome then endTest .travel counted else counted) := by
  have htest : (if s.run.isOpen = true then countEdge w s else s).test = s.test := by split <;> simp
  have hrunning := testRunning_congr htest
  unfold odoEdge
  dsimp only
  cases hr : (testRun s).isSome with
  | true => rfl
  | false => exact if_neg (by rw [hrunning, testRunning, hr]; exact Bool.false_ne_true)

end Sys2Proof.Machine

namespace Sys2Proof.Scope

open Machine

/-- Settles O40: the steps of R69 in their order, each as the statement spells it, then the ending of the test. -/
theorem odoEdgeInOrder : Obligations.OdoEdgeInOrder := by
  intro s f due selected forward u total m x s' moved a b boundary crossed c d held counted w edge
  have hdue : filterDue .odo s = true ↔ due := by
    rw [filterDue_eq]
    rfl
  have hselected : edgeSelected (!f.active) u = true ↔ selected := edgeSelected_not_iff f.active s
  have hforward : edgeForward u = true ↔ forward := edgeForward_iff s
  have hresult : edgeResult (edgeForward u) u = x := by
    unfold edgeResult x
    simp only [hforward]
    rfl
  have hmove : moveEdge (edgeForward u) u = a := by
    unfold moveEdge a
    simp only [edgeLimited_iff, hforward, moveChain_eq, hresult]
    rfl
  have hachain : a.chain = moved.chain := by
    unfold a
    split <;> simp
  have hastore : a.store = s.store := by
    unfold a
    split <;> simp [moved, u]
  have hb : checkTakeover a = b := by
    rw [checkTakeover_eq, hachain, hastore]
  have hbchain : b.chain = moved.chain := by
    rw [← hb, ← hachain]
    simp
  have hbparams : b.params = s.params := by
    rw [← hb, ← hmove]
    simp [u]
  have hbctl : b.ctl = s.ctl := by
    rw [← hb, ← hmove]
    simp [u]
  have hcross : crossBoundaries s.chain.n b = crossed := by
    rw [crossBoundaries_eq, hbchain, hbparams]
  have hc : (if edgeForward u then raiseMark (crossBoundaries s.chain.n b) else b) = c := by
    have hmark : raiseMark (crossBoundaries s.chain.n b) =
        { crossed with chain := { moved.chain with h := max s.chain.h s' } } := by
      rw [hcross, raiseMark, ← hcross]
      simp [hbchain, moved]
    rw [hmark]
    unfold c
    simp only [hforward]
  have hcctl : c.ctl = s.ctl := by
    rw [← hc, ← hbctl]
    split <;> simp
  have hcparams : c.params = s.params := by
    rw [← hc, ← hbparams]
    split <;> simp
  have hcdistance : c.chain.dH = s.chain.dH := by
    rw [← hc]
    split <;> simp [hbchain, moved]
  have hheld : addHoldDistance m c = counted := by
    have hdistance : holdDistanceAfter m c = d := by rw [holdDistanceAfter, hcdistance]
    unfold counted
    rw [addHoldDistance_eq, hdistance, ← hcctl, ← hcparams]
  have hcounted : countEdge (edgeForward u) u = counted := by
    have horder : countEdge (edgeForward u) u = addHoldDistance m
        (if edgeForward u then raiseMark (crossBoundaries s.chain.n (checkTakeover (moveEdge (edgeForward u) u)))
         else checkTakeover (moveEdge (edgeForward u) u)) := rfl
    rw [horder, hmove, hb, hc, hheld]
  have hedge : odoEdge (edgeForward u) u = edge := by
    rw [odoEdge_eq, hcounted]
    rfl
  have haccept : filterExpiry .odo s = if due then (if selected then edge else u) else s := by
    have haccepted : acceptLine .odo s = if edgeSelected (!f.active) u then odoEdge (edgeForward u) u else u := rfl
    rw [filterExpiry, haccepted, hedge]
    simp only [hdue, hselected]
  have run : exec .acceptedOdoEdge s = .next (filterExpiry .odo s) := rfl
  have runHold : exec .holdDistanceExpiry s = .next (if holdDistanceDue s then filterExpiry .odo s else s) := rfl
  have hholdDue : holdDistanceDue s = true ↔
      due ∧ selected ∧ s.run.isOpen = true ∧ s.ctl.state = .hold ∧ s.params.holdDist < d := by
    have hselectedHere : edgeSelected (!s.lines.odo.active) s = true ↔ selected := hselected
    simp only [holdDistanceDue, Bool.and_eq_true, decide_eq_true_eq, hdue, hselectedHere, and_assoc]
    rfl
  refine ⟨fun h => ?_, fun h hs => ?_, fun h hs => ?_, ?_⟩
  · rw [run, haccept, if_neg h]
  · rw [run, haccept, if_pos h, if_neg hs]
  · rw [run, haccept, if_pos h, if_pos hs]
  · rw [runHold]
    refine congrArg _ ?_
    simp only [hholdDue]
    split
    · next hall =>
      obtain ⟨hd, hs, -⟩ := hall
      rw [haccept, if_pos hd, if_pos hs]
    · rfl

end Sys2Proof.Scope
end

section
/-! The trip by STOP (R65, R91, R119, R138, R168). -/

namespace Sys2Proof.Machine

/-- TRIPPED entered where no test runs, as the statements spell it: pending values and waiting MANUAL_VALVE frames
dropped, NEUTRAL and TRAVEL 0 emitted, the event latched (R91, R119, R168). -/
def tripEntered (s : State) : State :=
  latch .tripped none s.chain.s (travelSent ⟨0, .tripped⟩ (neutralSent (manualDiscarded { s with
    depth := { s.depth with waiting := none, fresh := false }
    travel := { s.travel with waiting := none, fresh := false }
    ctl := { s.ctl with
      state := .tripped, prior := none
      offColumn := if s.ctl.state = .auto then false else s.ctl.offColumn } })))

theorem trip_eq (s : State) : trip s = tripEntered (closeRunningTest .stop s) := by
  simp only [trip, tripFrames, latchHere, silence_eq, discardManualValve_eq, emitDepthNow_neutral, emitTravelNow_eq,
    setState, reduceCtorEq, false_or]
  rfl

theorem acceptLine_stop_trip {s : State} (hinactive : s.lines.stop.active = false) : acceptLine .stop s =
    trip { s with lines := { s.lines with stop := ⟨s.lines.stop.high, true, none⟩ } } := by
  simp [acceptLine, lineOf, setLine, hinactive]

/-- STOP is accepted on an INACTIVE line whose candidate has held for its filter time (R61, R65). -/
theorem exec_stopAcceptedActive (s : State) : exec .stopAcceptedActive s = .next
    (if s.lines.stop.active = false ∧
        s.lines.stop.since.any (fun t => s.params.stopFilt ≤ age s.now.ms t.ms) = true then
      trip { s with lines := { s.lines with stop := ⟨s.lines.stop.high, true, none⟩ } }
    else s) := by
  have run : exec .stopAcceptedActive s = .next (if s.lines.stop.active then s else filterExpiry .stop s) := rfl
  rw [run]
  cases hactive : s.lines.stop.active with
  | true => rfl
  | false =>
    rw [filterExpiry_eq, acceptLine_stop_trip hactive]
    simp only [true_and]
    rfl

end Sys2Proof.Machine

namespace Sys2Proof.Scope

open Machine

/-- Settles O42: the running test is closed by its phase, and the trip enters TRIPPED from what that leaves. -/
theorem stopTrips : Obligations.StopTrips := by
  intro s f u stopped aborted
  have hstopped {v : State} (hchain : v.chain = s.chain) (hdepth : v.depth = s.depth) (htravel : v.travel = s.travel)
      (hctl : v.ctl = s.ctl) : tripEntered v = stopped v := by
    simp only [tripEntered, stopped, hchain, hdepth, htravel, hctl]
  have haborted {t : TestRun} {current : Option Nat} (hclose : closeRunningTest .stop u = closeTest .stop t current u) :
      tripEntered (closeRunningTest .stop u) = stopped (aborted t current) := by
    have hclosed : closeTest .stop t current u = aborted t current := closeTest_stop t current u
    rw [hclose, hclosed]
    apply hstopped <;> simp [aborted, u]
  refine ⟨fun hno => ?_, fun hactive hpassed => ?_⟩
  · rw [exec_stopAcceptedActive]
    refine congrArg _ (if_neg fun ⟨hinactive, hpassed⟩ => ?_)
    rcases hno with hactive | hearly
    · exact Bool.false_ne_true (hinactive.symm.trans hactive)
    · exact hearly hpassed
  · have hrun : exec .stopAcceptedActive s = .next (tripEntered (closeRunningTest .stop u)) := by
      rw [exec_stopAcceptedActive, if_pos ⟨hactive, hpassed⟩, trip_eq]
    rw [hrun]
    refine ⟨fun hidle => ?_, fun t hwait => ?_, fun t i m m' hstep => ?_⟩
    · have hclose : closeRunningTest .stop u = u := by simp [closeRunningTest, u, hidle]
      rw [hclose, hstopped (v := u) rfl rfl rfl rfl]
    · rw [haborted (t := t) (current := none) (by simp [closeRunningTest, u, hwait])]
    · rw [haborted (t := t) (current := some i) (by simp [closeRunningTest, u, hstep])]

end Sys2Proof.Scope
end

section
/-! The control state's consistency with run, test, prior state and reference (R75, R77, R82, R84, R85, R90, R103,
R131). -/

namespace Sys2Proof.Scope

open Machine

/-- Settles O8: every command keeps the control state consistent, and neither the queue nor the clock touches it. -/
theorem stepKeepsControlSound : Obligations.StepKeepsControlSound := fun _ _ h hst => step_keeps_controlSound h hst

end Sys2Proof.Scope
end

section
/-! MANUAL_VALVE frames at Port D (R89, R90, R138, R167, R168): every command keeps them out of the forward queue beyond
STANDBY and MANUAL. -/

namespace Sys2Proof.Machine

/-! ## What the gate reads -/

/-- `t` agrees with `s` on all that `ManualGated` reads, but that frames of other classes may have joined the forward
queue and any may have left it. -/
structure SameGate (s t : State) : Prop where
  state : t.ctl.state = s.ctl.state := by simp
  prior : t.ctl.prior = s.ctl.prior := by simp
  running : testRunning t = testRunning s := by simp [testRunning, testRun]
  pending : t.pending = s.pending := by simp
  queue : ∀ f ∈ t.portD.queue, isManualValve f = true → f ∈ s.portD.queue := by simp +contextual

theorem manualGated_of_same {s t : State} (h : ManualGated s) (k : SameGate s t) : ManualGated t where
  test := ⟨by rw [k.running, k.state]; exact h.test.running, by rw [k.prior, k.state]; exact h.test.prior,
    by rw [k.prior, k.state]; exact h.test.noPrior⟩
  formed := by rw [k.pending]; exact h.formed
  queue := by
    rw [k.state]
    intro hs hm f hf
    by_contra hv
    exact hv (h.queue hs hm f (k.queue f hf (by simpa using hv)))

/-- What touches neither the control unit, the test, Port D nor the queue of commands leaves the gate alone. -/
theorem sameGate_of_eq {s t : State} (hctl : t.ctl = s.ctl) (htest : t.test = s.test) (hport : t.portD = s.portD)
    (hpending : t.pending = s.pending) : SameGate s t :=
  ⟨by rw [hctl], by rw [hctl], testRunning_congr htest, hpending, fun f hf _ => hport ▸ hf⟩

theorem sameGate_rfl (s : State) : SameGate s s := sameGate_of_eq rfl rfl rfl rfl

/-- A test runs in TEST only. -/
theorem not_running_of_testSound {s : State} (h : TestSound s) (ht : s.ctl.state ≠ .test) : testRunning s = false := by
  by_contra hr
  exact ht (h.running.1 (by simpa using hr))

/-- Outside TEST, with no test running, the gate asks for a forward queue free of MANUAL_VALVE frames, and in STANDBY and
MANUAL not even for that. -/
theorem manualGated_of_idle {s t : State} (h : ManualGated s) (hrun : testRunning t = false)
    (hprior : t.ctl.prior = none) (hstate : t.ctl.state ≠ .test) (hpending : t.pending = s.pending)
    (hqueue : t.ctl.state ≠ .standby → t.ctl.state ≠ .manual → ∀ f ∈ t.portD.queue, isManualValve f = false) :
    ManualGated t :=
  ⟨⟨by simp [hrun, hstate], by simp [hstate], fun _ => hprior⟩, by rw [hpending]; exact h.formed, hqueue⟩

/-- Out of TEST, STANDBY and MANUAL a change of the control state keeps the gate. -/
theorem manualGated_of_gated {s t : State} (h : ManualGated s)
    (hs : s.ctl.state ≠ .standby ∧ s.ctl.state ≠ .manual ∧ s.ctl.state ≠ .test) (ht : t.ctl.state ≠ .test)
    (htest : t.test = s.test) (hprior : t.ctl.prior = s.ctl.prior) (hpending : t.pending = s.pending)
    (hqueue : ∀ f ∈ t.portD.queue, f ∈ s.portD.queue ∨ isManualValve f = false) : ManualGated t := by
  obtain ⟨hstandby, hmanual, hnot⟩ := hs
  refine manualGated_of_idle h ((testRunning_congr htest).trans (not_running_of_testSound h.test hnot))
    (hprior.trans (h.test.noPrior hnot)) ht hpending fun _ _ f hf => ?_
  exact (hqueue f hf).elim (h.queue hstandby hmanual f) id

/-! ## Transitions -/

@[simp] theorem enterAuto_ctl_state (s : State) : (enterAuto s).ctl.state = .auto := rfl

/-- AUTO is entered with the forward queue freed of MANUAL_VALVE frames (R168). -/
theorem manualGated_enterAuto {s : State} (h : ManualGated s) (hs : s.ctl.state ≠ .test) :
    ManualGated (enterAuto s) :=
  manualGated_of_idle h (by rw [testRunning_congr (s := s) (by simp), not_running_of_testSound h.test hs])
    (by simpa using h.test.noPrior hs) (by simp) (by simp) (fun _ _ => by simp +contextual [enterAuto])

/-- STANDBY and MANUAL let MANUAL_VALVE frames wait. -/
theorem manualGated_releaseControl {s : State} {new : CtlState} (h : ManualGated s) (hs : s.ctl.state ≠ .test)
    (hnew : new = .standby ∨ new = .manual) : ManualGated (releaseControl new s) := by
  refine manualGated_of_idle h (by rw [testRunning_congr (s := s) (by simp), not_running_of_testSound h.test hs])
    (by simpa using h.test.noPrior hs) ?_ (by simp) ?_ <;> obtain rfl | rfl := hnew <;> simp

theorem manualGated_reportFading {s : State} (c : BeamCode) (h : ManualGated s) : ManualGated (reportFading c s) := by
  by_cases ha : s.ctl.state = .auto
  · have hs : (reportFading c s).ctl.state = .hold := by simp [reportFading, ha, enterHold]
    exact manualGated_of_gated h (by simp [ha]) (by simp [hs]) (by simp) (by simp) (by simp) (by simp +contextual)
  · simpa [reportFading, ha] using h

theorem manualGated_reportSuspend {s : State} (h : ManualGated s) : ManualGated (reportSuspend s) := by
  by_cases hh : s.ctl.state = .hold
  · have hs : (reportSuspend s).ctl.state = .suspended := by simp [reportSuspend, hh, enterSuspended]
    exact manualGated_of_gated h (by simp [hh]) (by simp [hs]) (by simp) (by simp) (by simp) (by simp +contextual)
  · simpa [reportSuspend, hh] using h

theorem manualGated_reportRecovered {s : State} (h : ManualGated s) : ManualGated (reportRecovered s) := by
  unfold reportRecovered
  split
  · rename_i hh
    exact manualGated_enterAuto h (by simp [hh])
  · exact h

/-- The end of a running test returns the control state to the one the test began in (R90, R138). -/
theorem endTest_of_test {s : State} (o : TestOutcome) (h : TestSound s) (ht : s.ctl.state = .test) :
    ∃ p, (p = .standby ∨ p = .manual) ∧ endTest o s = clearPrior (enterIdle p (closeRunningTest o s)) := by
  have returns (p : CtlState) (hp : s.ctl.prior = some p) :
      endTest o s = clearPrior (enterIdle p (closeRunningTest o s)) := by
    simp [endTest, h.running.2 ht, returnFromTest, hp]
  obtain hp | hp := h.prior ht
  · exact ⟨_, Or.inl rfl, returns _ hp⟩
  · exact ⟨_, Or.inr rfl, returns _ hp⟩

theorem endTest_of_not_running {s : State} (o : TestOutcome) (h : testRunning s = false) : endTest o s = s := by
  simp [endTest, h]

theorem manualGated_endTest {s : State} (o : TestOutcome) (h : ManualGated s) : ManualGated (endTest o s) := by
  by_cases ht : s.ctl.state = .test
  · obtain ⟨p, hp, he⟩ := endTest_of_test o h.test ht
    have hrun : testRunning (endTest o s) = false := by
      rw [he, ← testRunning_closeRunningTest o s]
      exact testRunning_congr (by simp)
    refine manualGated_of_idle h hrun (by rw [he]; rfl) ?_ (by simp) ?_ <;> rw [he] <;>
      obtain rfl | rfl := hp <;> simp
  · rw [endTest_of_not_running o (not_running_of_testSound h.test ht)]
    exact h

/-- The trip frees the forward queue of MANUAL_VALVE frames (R91, R168). -/
theorem manualGated_trip {s : State} (h : ManualGated s) : ManualGated (trip s) := by
  have hrun : testRunning (trip s) = false := by
    rw [← testRunning_closeRunningTest .stop s]
    exact testRunning_congr (by simp [trip])
  exact manualGated_of_idle h hrun (by simp [trip]) (by simp [trip]) (by simp) (fun _ _ => by simp +contextual [trip])

/-! ## Forwarding -/

/-- Only a frame forwarded from Port U joins the forward queue of Port D (R166, R169). -/
theorem mem_queue_forwardFrom {p : Port} {f g : CanFrame} {s : State} (h : g ∈ (forwardFrom p f s).portD.queue) :
    g ∈ s.portD.queue ∨ p = .u ∧ g = f := by
  cases p with
  | u =>
    simp only [forwardFrom, forwardToD] at h
    split at h
    · simpa using h
    · exact Or.inl (by simpa using h)
  | d => exact Or.inl (by simpa [forwardFrom] using h)

theorem sameGate_forwardFrom {p : Port} {f : CanFrame} (s : State) (hf : p = .u → isManualValve f = false) :
    SameGate s (forwardFrom p f s) where
  queue g hg hv := by
    obtain hg | ⟨hp, rfl⟩ := mem_queue_forwardFrom hg
    · exact hg
    · simp [hf hp] at hv

theorem sameGate_forwardByTable {p : Port} {f : CanFrame} (id : Ident) (s : State)
    (hf : p = .u → isManualValve f = false) : SameGate s (forwardByTable p id f s) := by
  unfold forwardByTable
  split <;> [exact sameGate_forwardFrom s hf; exact sameGate_rfl s]

theorem isManualValve_frameOf (cls : Byte) (f : Arrival) :
    isManualValve (frameOf cls f) = decide (cls = clsManualValve) := by
  simp [isManualValve, frameOf]

theorem isManualValve_requestFrame (d : BitVec 6) (code : Byte) (r : Request) :
    isManualValve (requestFrame d code r) = false := by
  simp [isManualValve, requestFrame, clsMgmtReq, clsManualValve]

theorem isManualValve_of_unclassified {f : CanFrame} (h : unclassified f = true) : isManualValve f = false := by
  unfold isManualValve
  split
  · simp_all [unclassified]
  · rfl

theorem manualGated_forwardTaken {s : State} (p : Port) {cls : Byte} (f : Arrival) (h : ManualGated s)
    (hc : p = .u → cls ≠ clsManualValve) : ManualGated (forwardTaken p cls f s) :=
  manualGated_of_same h (sameGate_forwardByTable _ s fun hp => by simp [isManualValve_frameOf, hc hp])

theorem manualGated_forwardRequest {s : State} (d : BitVec 6) (code : Byte) (r : Request) (h : ManualGated s) :
    ManualGated (forwardRequest d code r s) :=
  manualGated_of_same h (sameGate_forwardByTable _ s fun _ => isManualValve_requestFrame d code r)

/-- In STANDBY and MANUAL any frame may join the forward queue (R89, R167). -/
theorem manualGated_forwardIdle {s : State} (f : CanFrame) (h : ManualGated s)
    (hs : s.ctl.state = .standby ∨ s.ctl.state = .manual) : ManualGated (forwardToD f s) := by
  have ht : s.ctl.state ≠ .test := by obtain hs | hs := hs <;> simp [hs]
  refine manualGated_of_idle h (by rw [testRunning_congr (s := s) (by simp), not_running_of_testSound h.test ht])
    (by simpa using h.test.noPrior ht) (by simpa using ht) (by simp) ?_
  obtain hs | hs := hs <;> simp [hs]

/-! ## Requests: their exchange -/

theorem manualGated_sendReply {a : Answer} (code : Byte) (r : Request) (h : ManualGated a.state) :
    ManualGated (sendReply code r a) :=
  manualGated_of_same h {}

/-- A request keeps the gate where the rule that owns it does (R175). -/
theorem manualGated_answerRequest {code : Byte} {n : Nat} {r : Request} {act : List Byte → State → Answer} {s : State}
    (h : ManualGated s) (hact : ∀ body t, ManualGated t → ManualGated (act body t).state) :
    ManualGated (answerRequest code n r act s) := by
  have hf := manualGated_forwardRequest s.node code r h
  unfold answerRequest
  dsimp only
  split
  · exact manualGated_sendReply code r hf
  · exact manualGated_sendReply code r (hact _ _ hf)

theorem manualGated_quietRequest {code : Byte} {n : Nat} {r : Request} {act : List Byte → State → Answer} {s : State}
    (h : ManualGated s) (hact : ∀ body t, SameGate t (act body t).state) : ManualGated (answerRequest code n r act s) :=
  manualGated_answerRequest h fun body t ht => manualGated_of_same ht (hact body t)

theorem manualGated_refusal {s : State} (code : Byte) (r : Request) (st : Status) (h : ManualGated s) :
    ManualGated (sendReply code r (refuse st (forwardRequest s.node code r s))) :=
  manualGated_sendReply code r (manualGated_forwardRequest s.node code r h)

/-! ## Strikes -/

theorem manualGated_beamTransition {s : State} (c : BeamCode) (r : StrikeResult) (h : ManualGated s) :
    ManualGated (beamTransition c r s) := by
  obtain hr | ⟨-, e, -, hr | hr⟩ | ⟨-, hr⟩ | ⟨-, b, hr⟩ | ⟨-, hr⟩ := beamTransition_cases c r s <;> rw [hr]
  · exact h
  · exact manualGated_of_same h {}
  · exact manualGated_of_same h {}
  · exact manualGated_of_same h {}
  · exact manualGated_of_same h {}
  · exact manualGated_reportRecovered (manualGated_of_same h {})

theorem manualGated_handTestStrike {s : State} (c : BeamCode) (r : StrikeResult) (h : ManualGated s) :
    ManualGated (handTestStrike c r s) := by
  obtain hr | hr | ⟨p, hrun, hp, hr⟩ := handTestStrike_cases c r s <;> rw [hr]
  · exact h
  · exact manualGated_endTest .offColumn h
  · refine manualGated_of_same h { running := ?_ }
    rw [hrun]
    cases p <;> simp_all [testRunning, testRun]

theorem sameGate_handleKind (c : BeamCode) (kind : StrikeKind) (s : State) : SameGate s (handleKind c kind s).2 := by
  unfold handleKind failWindow
  cases kind with
  | single p => dsimp only; split <;> [exact {}; split] <;> exact {}
  | edgeHigh => exact {}
  | edgeLow => exact {}
  | multi => exact {}

theorem manualGated_handleStrike {s : State} (k : Strike) (h : ManualGated s) : ManualGated (handleStrike k s) := by
  have hk : ManualGated (handleKind k.code k.kind (checkSequence k.code k.seq s)).2 :=
    manualGated_of_same (manualGated_of_same h {}) (sameGate_handleKind _ _ _)
  have hb := manualGated_beamTransition k.code (handleKind k.code k.kind (checkSequence k.code k.seq s)).1 hk
  exact manualGated_handTestStrike _ _ (manualGated_of_same hb {})

theorem manualGated_takeStrike {s : State} (f : Arrival) (h : ManualGated s) : ManualGated (takeStrike f s) := by
  unfold takeStrike
  split
  · exact manualGated_of_same h {}
  · exact manualGated_handleStrike _ (manualGated_forwardTaken .u f h (by decide))

theorem manualGated_takeTiltFrame {s : State} (f : Arrival) (h : ManualGated s) : ManualGated (takeTiltFrame f s) := by
  unfold takeTiltFrame
  split
  · exact manualGated_of_same h {}
  · exact manualGated_of_same (manualGated_forwardTaken .u (cls := clsTilt) f h (by decide)) {}

/-! ## Timeouts -/

theorem manualGated_loseBeam {s : State} (c : BeamCode) (h : ManualGated s) : ManualGated (loseBeam c s) := by
  have hl : ManualGated (latchHere .beamLost (some c) (setBeam c (lostEntry (beam s c)) s)) := manualGated_of_same h {}
  unfold loseBeam
  dsimp only
  split <;> [split; exact hl] <;> [exact manualGated_endTest .noBeam hl; exact hl]

theorem manualGated_strikeTimeout {s : State} (c : BeamCode) (h : ManualGated s) : ManualGated (strikeTimeout c s) := by
  unfold strikeTimeout
  split <;> [exact manualGated_loseBeam c h; exact h]

theorem manualGated_referenceTimeout {s : State} (h : ManualGated s) : ManualGated (referenceTimeout s) := by
  unfold referenceTimeout
  split <;> [split; exact h]
  · exact manualGated_reportFading _ (manualGated_of_same h {})
  · exact h

theorem manualGated_loseReference {s : State} (c : BeamCode) (h : ManualGated s) : ManualGated (loseReference c s) := by
  have hl : ManualGated (referenceChanged (loseBeam c s)) := manualGated_of_same (manualGated_loseBeam c h) {}
  unfold loseReference
  dsimp only
  split
  · exact manualGated_reportRecovered (manualGated_of_same hl {})
  · exact manualGated_reportSuspend hl

theorem manualGated_fadingTimeout {s : State} (h : ManualGated s) : ManualGated (fadingTimeout s) := by
  unfold fadingTimeout
  split <;> [split; exact h] <;> [exact manualGated_loseReference _ h; exact h]

theorem manualGated_expireAll {s : State} (h : ManualGated s) : ManualGated (expireAll s) := by
  have hb : ManualGated (expireBeams s) := manualGated_strikeTimeout .b3 (manualGated_strikeTimeout .b2
    (manualGated_strikeTimeout .b1 (manualGated_strikeTimeout .b0 h)))
  rw [expireAll_eq]
  split <;> [exact manualGated_referenceTimeout hb; exact manualGated_fadingTimeout hb]

/-! ## Lines and edges -/

theorem manualGated_addHoldDistance {s : State} (m : Nat) (h : ManualGated s) : ManualGated (addHoldDistance m s) := by
  have hd : ManualGated { s with chain := { s.chain with dH := holdDistanceAfter m s } } := manualGated_of_same h {}
  unfold addHoldDistance compareHoldDistance
  split <;> [split; exact h] <;> [exact manualGated_reportSuspend hd; exact hd]

theorem manualGated_odoEdge {s : State} (w : Bool) (h : ManualGated s) : ManualGated (odoEdge w s) := by
  have counted : ManualGated (countEdge w s) := by
    unfold countEdge
    refine manualGated_addHoldDistance _ ?_
    split <;> exact manualGated_of_same h {}
  unfold odoEdge
  split <;> [exact manualGated_endTest .travel counted; exact manualGated_endTest .travel h]

theorem manualGated_setLine {s : State} (l : Line) (f : LineFilter) (h : ManualGated s) :
    ManualGated (setLine l f s) := manualGated_of_same h {}

theorem manualGated_acceptLine {s : State} (l : Line) (h : ManualGated s) : ManualGated (acceptLine l s) := by
  have hl := manualGated_setLine l { lineOf s l with active := !(lineOf s l).active, since := none } h
  unfold acceptLine
  cases l with
  | odo => dsimp only; split <;> [exact manualGated_odoEdge _ hl; exact hl]
  | dir | dig => exact hl
  | stop => dsimp only; split <;> [exact hl; exact manualGated_trip hl]

theorem manualGated_filterExpiry {s : State} (l : Line) (h : ManualGated s) : ManualGated (filterExpiry l s) := by
  unfold filterExpiry
  split <;> [exact manualGated_acceptLine l h; exact h]

theorem manualGated_lineLevelChange {s : State} (l : Line) (high : Bool) (h : ManualGated s) :
    ManualGated (lineLevelChange l high s) := by
  have start {t : State} (ht : ManualGated t) : ManualGated (startCandidate l t) := by
    unfold startCandidate
    dsimp only
    split <;> [split; exact ht]
    · exact manualGated_acceptLine l (manualGated_setLine l _ ht)
    · exact manualGated_setLine l _ ht
  unfold lineLevelChange
  dsimp only
  split <;> [exact manualGated_setLine l _ h; exact start (manualGated_setLine l _ h)]

/-! ## The valve test -/

theorem manualGated_writeStep {s : State} (t : TestRun) (i : Nat) (h : ManualGated s) (hrun : testRunning s = true) :
    ManualGated (writeStep t i s) :=
  manualGated_of_same h { running := by rw [hrun]; simp [writeStep, testRunning, testRun] }

theorem manualGated_firstStep {s : State} (h : ManualGated s) : ManualGated (firstStep s) := by
  unfold firstStep
  split <;> [skip; exact h; exact h]
  rename_i t hp
  split <;> [split; exact h]
  · exact manualGated_endTest .notFound h
  · exact manualGated_writeStep _ _ h (by simp [testRunning, testRun, hp])

theorem manualGated_stepTimerExpiry {s : State} (h : ManualGated s) : ManualGated (stepTimerExpiry s) := by
  have judged : ManualGated (judgeStep s) := by
    cases hp : s.test.phase with
    | stepping t i m m0 =>
      obtain ⟨moved, hj⟩ := judgeStep_of_stepping hp
      rw [hj]
      split <;> [exact manualGated_endTest .found h; split] <;> [exact manualGated_endTest .wrongDirection h; split]
      · exact manualGated_writeStep t _ h (by simp [testRunning, testRun, hp])
      · exact manualGated_endTest .notFound h
    | idle => simpa [judgeStep, hp] using h
    | waiting t => simpa [judgeStep, hp] using h
  unfold stepTimerExpiry
  split <;> [exact judged; exact h]

theorem manualGated_noBeamTimeout {s : State} (h : ManualGated s) : ManualGated (noBeamTimeout s) := by
  unfold noBeamTimeout
  split <;> [exact manualGated_endTest .noBeam h; exact h]

theorem manualGated_checkMax {s : State} (h : ManualGated s) : ManualGated (checkMax s) := by
  unfold checkMax
  split <;> [split; exact h; exact h] <;> [exact manualGated_endTest .notFound h; exact h]

/-- A test is entered with the forward queue freed of MANUAL_VALVE frames (R90, R168). -/
theorem manualGated_startTest {s : State} (d : Dir) (c : BeamCode) (b : Int) (h : ManualGated s)
    (hs : s.ctl.state = .standby ∨ s.ctl.state = .manual) : ManualGated (startTest d c b s) := by
  refine manualGated_firstStep ⟨⟨?_, ?_, ?_⟩, ?_, ?_⟩
  · simp [enterTest, testRunning, testRun]
  · simpa [enterTest] using hs
  · simp [enterTest]
  · simpa using h.formed
  · simp +contextual [enterTest]

theorem manualGated_testStart {s : State} (body : List Byte) (h : ManualGated s) :
    ManualGated (testStart body s).state := by
  unfold testStart
  split <;> [exact h; skip]
  split <;> [exact h; skip]
  split <;> [exact h; skip]
  split <;> [exact h; skip]
  split <;> [exact h; skip]
  split <;> [exact manualGated_startTest _ _ _ h (by tauto); exact h]

theorem manualGated_testAbort {s : State} (h : ManualGated s) : ManualGated (testAbort s).state := by
  unfold testAbort
  split <;> [exact manualGated_endTest .request h; exact h]

/-! ## Parameters and resets -/

theorem sameGate_modeEffects (s : State) :
    (∀ old, SameGate s (depthModeEffect old s)) ∧ (∀ old, SameGate s (travelModeEffect old s)) ∧
    (∀ old, SameGate s (tickSourceEffect old s)) ∧ SameGate s (tickEffect s) := by
  refine ⟨fun old => ?_, fun old => ?_, fun old => ?_, ?_⟩
  · unfold depthModeEffect
    split <;> [split; skip] <;> exact {}
  · unfold travelModeEffect
    split <;> exact {}
  · unfold tickSourceEffect
    split <;> exact {}
  · unfold tickEffect
    dsimp only
    split <;> exact {}

theorem manualGated_paramEffect {s : State} (id : Nat) (old : Params) (h : ManualGated s) :
    ManualGated (paramEffect id old s) := by
  obtain ⟨hdepth, htravel, hsource, htick⟩ := sameGate_modeEffects s
  unfold paramEffect
  split
  · exact manualGated_of_same h {}
  · exact manualGated_expireAll h
  · exact manualGated_of_same h {}
  · exact manualGated_filterExpiry _ h
  · exact manualGated_filterExpiry _ h
  · exact manualGated_filterExpiry _ h
  · exact manualGated_filterExpiry _ h
  · exact manualGated_of_same h ⟨rfl, rfl, rfl, rfl, fun _ hf _ => hf⟩
  · exact manualGated_of_same h htick
  · exact manualGated_of_same h (hsource _)
  · exact manualGated_of_same h {}
  · exact manualGated_of_same h (hdepth _)
  · exact manualGated_of_same h (htravel _)
  · exact manualGated_of_same h {}
  · exact manualGated_of_same h {}
  · exact manualGated_checkMax h
  · exact manualGated_noBeamTimeout h
  · exact h

theorem manualGated_paramWrite {s : State} (body : List Byte) (h : ManualGated s) :
    ManualGated (paramWrite body s).state := by
  obtain hs | ⟨id, v, hs⟩ := paramWrite_state body s <;> rw [hs]
  · exact h
  · exact manualGated_paramEffect id s.params (manualGated_of_same h {})

/-- After a reset the part is in STANDBY with no test, and the commands waiting stay (R96, log 24). -/
theorem manualGated_of_reset {s t : State} (h : ManualGated s) (hc : t.ctl = resetControl) (ht : t.test = resetTest)
    (hp : t.pending = s.pending) : ManualGated t :=
  manualGated_of_idle h (testRunning_of_phase_idle (by rw [ht]; rfl)) (by rw [hc]; rfl) (by rw [hc]; decide) hp
    (by rw [hc]; exact fun hs => absurd rfl hs)

theorem manualGated_masterReset {s : State} (h : ManualGated s) : ManualGated (masterReset s) := by
  rw [masterReset_eq]
  exact manualGated_of_reset h rfl rfl rfl

theorem manualGated_takeReset {s : State} (r : Request) (h : ManualGated s) : ManualGated (takeReset r s) := by
  have hf := manualGated_forwardRequest s.node codeReset r h
  unfold takeReset
  dsimp only
  split
  · exact manualGated_sendReply codeReset r hf
  · rw [requestReset_eq]
    split <;> [exact manualGated_of_same hf {}; exact manualGated_masterReset hf]

/-- A run clear leaves STANDBY, or TRIPPED with the queue it found (R95). -/
theorem manualGated_clearRun {s : State} (h : ManualGated s) : ManualGated (clearRun s) := by
  unfold clearRun
  dsimp only
  generalize hu : setMemory 0 (endRun (finishTakeover (clearPrior (closeRunningTest .request s)))) = u
  have hrun : testRunning u = false := by
    rw [← testRunning_closeRunningTest .request s]
    exact testRunning_congr (by simp [← hu])
  have hprior : u.ctl.prior = none := by simp [← hu]
  have hstate : u.ctl.state = s.ctl.state := by simp [← hu]
  have hpending : u.pending = s.pending := by simp [← hu]
  have hqueue : u.portD.queue = s.portD.queue := by simp [← hu]
  unfold clearControl
  split
  · rename_i hs
    have hs' : s.ctl.state = .tripped := hstate.symm.trans hs
    refine manualGated_of_idle h (by rw [← hrun]; exact testRunning_congr rfl) hprior ?_ hpending fun _ _ f hf => ?_
    · simp [clearBlocks, hs]
    · exact h.queue (by simp [hs']) (by simp [hs']) f (hqueue ▸ hf)
  · exact manualGated_of_idle h (by rw [← hrun]; exact testRunning_congr (by simp [clearBlocks]))
      (by simp [clearBlocks, hprior]) (by simp [clearBlocks]) (by simp [clearBlocks, hpending])
      (by simp [clearBlocks])

theorem manualGated_departU {s : State} (h : ManualGated s) : ManualGated (departU s) := by
  unfold departU afterDeparture
  split <;> [exact h; split]
  · exact manualGated_masterReset (manualGated_of_same h {})
  · exact manualGated_of_same h {}

/-- The arbiter takes frames out of the forward queue and puts none in (R128). -/
theorem mem_queue_arbiterTakes {p : PortD} {f : CanFrame} (h : f ∈ (arbiterTakes p).queue) : f ∈ p.queue := by
  unfold arbiterTakes at h
  split at h <;> simp_all

end Sys2Proof.Machine
end

section
/-! MANUAL_VALVE frames at Port D: the requests, the frames and the step. -/

namespace Sys2Proof.Machine

/-! ## The rules of the requests -/

theorem sameGate_loadBegin (body : List Byte) (s : State) : SameGate s (loadBegin body s).state := by
  unfold loadBegin
  repeat' split
  all_goals exact sameGate_of_eq rfl rfl rfl rfl

theorem sameGate_loadEntry (sn : Session) (body : List Byte) (s : State) :
    SameGate s (loadEntry sn body s).state := by
  unfold loadEntry
  repeat' split
  all_goals exact sameGate_of_eq rfl rfl rfl rfl

theorem sameGate_loadCancel (body : List Byte) (s : State) : SameGate s (loadCancel body s).state := by
  unfold loadCancel cancelKind
  repeat' split
  all_goals exact sameGate_of_eq rfl rfl rfl rfl

theorem sameGate_readEntry (body : List Byte) (s : State) : SameGate s (readEntry body s).state := by
  unfold readEntry readProfile readTiltEntry readPoint
  dsimp only
  repeat' split
  all_goals exact sameGate_rfl s

theorem sameGate_paramRead (body : List Byte) (s : State) : SameGate s (paramRead body s).state := by
  unfold paramRead
  dsimp only
  split <;> exact sameGate_rfl s

theorem sameGate_loadCommit (body : List Byte) (s : State) : SameGate s (loadCommit body s).state := by
  have profile (n : Nat) : SameGate s (commitProfile n s) := by
    unfold commitProfile
    dsimp only
    split <;> exact {}
  unfold loadCommit
  split <;> [skip; exact sameGate_rfl s]
  unfold commitSession
  split <;> [exact sameGate_rfl s; skip]
  split <;> [exact sameGate_rfl s; skip]
  split <;> [exact sameGate_rfl s; skip]
  split
  · exact profile _
  all_goals split <;> exact sameGate_of_eq rfl rfl rfl rfl

theorem manualGated_takeLoadEntry {s : State} (r : Request) (h : ManualGated s) : ManualGated (takeLoadEntry r s) := by
  unfold takeLoadEntry
  split
  · exact manualGated_refusal codeLoadEntry r .sequence h
  · exact manualGated_quietRequest h (sameGate_loadEntry _)

/-- OPEN_RUN goes from STANDBY to MANUAL (R78). -/
theorem manualGated_openRunRequest {s : State} (body : List Byte) (h : ManualGated s) :
    ManualGated (openRunRequest body s).state := by
  obtain hr | ⟨start, g, discard, hs, -, -, hr⟩ := openRunRequest_state body s <;> rw [hr]
  · exact h
  · have ht : s.ctl.state ≠ .test := by simp [hs]
    exact manualGated_of_idle h
      (by rw [testRunning_congr (s := s) (by simp [openRun]), not_running_of_testSound h.test ht])
      (by simpa [openRun] using h.test.noPrior ht) (by simp [openRun]) (by simp [openRun]) (by simp [openRun])

theorem manualGated_closeRun {s : State} (h : ManualGated s) : ManualGated (closeRun s).state := by
  unfold closeRun
  split <;> [skip; exact h]
  rename_i hs
  have he : ManualGated (endRun (finishTakeover s)) := manualGated_of_same h {}
  exact manualGated_releaseControl he (by obtain hs | hs := hs <;> simp [hs]) (Or.inl rfl)

theorem sameGate_bench (body : List Byte) (s : State) : SameGate s (bench body s).state := by
  obtain hb | ⟨-, c, d, hb⟩ := bench_state body s <;> rw [hb] <;> [exact sameGate_rfl s; skip]
  obtain hf | hf | ⟨v, hf | hf⟩ := finishBench_state c d s <;> rw [hf]
  · exact sameGate_rfl s
  · exact {}
  · exact {}
  · unfold benchBeam
    exact {}

theorem sameGate_setDepthRequest (body : List Byte) (s : State) : SameGate s (setDepthRequest body s).state := by
  unfold setDepthRequest setDepth
  split <;> [skip; exact sameGate_rfl s]
  split <;> [exact sameGate_rfl s; split] <;> exact sameGate_of_eq rfl rfl rfl rfl

theorem manualGated_takeModeAuto {s : State} (body : List Byte) (h : ManualGated s) :
    ManualGated (takeModeAuto body s).state := by
  unfold takeModeAuto setModeAuto
  split <;> [split; exact h] <;> [skip; exact h]
  rename_i hs
  exact manualGated_enterAuto h (by simp [hs.1])

theorem manualGated_resume {s : State} (h : ManualGated s) : ManualGated (resume s).state := by
  unfold resume
  split <;> [skip; exact h]
  rename_i hs
  exact manualGated_enterAuto h (by simp [hs.1])

theorem manualGated_takeModeManual {s : State} (body : List Byte) (h : ManualGated s) :
    ManualGated (takeModeManual body s).state := by
  unfold takeModeManual setModeManual
  split <;> [split; exact h] <;> [skip; exact h]
  rename_i hs
  exact manualGated_releaseControl h (by obtain hs | hs | hs := hs <;> simp [hs]) (Or.inr rfl)

theorem manualGated_clearTrip {s : State} (h : ManualGated s) : ManualGated (clearTrip s).state := by
  unfold clearTrip
  split <;> [exact h; skip]
  rename_i hs
  have hidle : idleState s = .standby ∨ idleState s = .manual := by
    unfold idleState
    split <;> simp
  exact manualGated_releaseControl h (by rintro ht; simp [ht] at hs) hidle

theorem manualGated_handover {s : State} (body : List Byte) (h : ManualGated s) :
    ManualGated (handover body s).state := by
  unfold handover
  split <;> [exact h; split] <;> [skip; exact h]
  exact manualGated_reportRecovered (manualGated_of_same h {})

theorem sameGate_adopt (body : List Byte) (s : State) : SameGate s (adopt body s).state := by
  unfold adopt adoptBeam
  repeat' split
  all_goals exact sameGate_of_eq rfl rfl rfl rfl

theorem sameGate_testApply (s : State) : SameGate s (testApply s).state := by
  obtain hs | ⟨d, i, m, -, -, -, hs⟩ := testApply_state s <;> rw [hs] <;> exact sameGate_of_eq rfl rfl rfl rfl

theorem sameGate_fwdWrite (body : List Byte) (s : State) : SameGate s (fwdWrite body s).state := by
  unfold fwdWrite writeFwd
  repeat' split
  all_goals exact sameGate_of_eq rfl rfl rfl rfl

theorem sameGate_fwdRead (body : List Byte) (s : State) : SameGate s (fwdRead body s).state := by
  unfold fwdRead
  dsimp only
  split <;> exact sameGate_rfl s

theorem sameGate_maskWrite (body : List Byte) (s : State) : SameGate s (maskWrite body s).state := by
  unfold maskWrite writeMask
  repeat' split
  all_goals exact sameGate_of_eq rfl rfl rfl rfl

theorem sameGate_traceRead (s : State) : SameGate s (traceRead s).state := by
  unfold traceRead
  split <;> exact sameGate_of_eq rfl rfl rfl rfl

theorem sameGate_burst (s : State) (u : Trace) : SameGate s (burst { s with trace := u }) := {}

theorem sameGate_traceRewind (s : State) : SameGate s (traceRewind s).state := by
  unfold traceRewind
  split <;> [exact sameGate_rfl s; exact sameGate_burst s _]

theorem sameGate_traceGate (body : List Byte) (s : State) : SameGate s (traceGate body s).state := by
  unfold traceGate
  split <;> exact sameGate_of_eq rfl rfl rfl rfl

theorem manualGated_identify {s : State} (broadcast : Bool) (r : Request) (h : ManualGated s) :
    ManualGated (identify broadcast r s) := by
  have hf := manualGated_forwardRequest (if broadcast then broadcastNode else s.node) codeIdentify r h
  unfold identify
  dsimp only
  split <;> exact manualGated_sendReply codeIdentify r hf

/-! ## Frames -/

/-- A MANUAL_VALVE frame joins the forward queue only where the state it finds, or its override, is STANDBY or MANUAL
(R89, R167). -/
theorem manualGated_takeManual {s : State} (f : Arrival) (h : ManualGated s) : ManualGated (takeManual f s) := by
  have overrides (hs : s.ctl.state ≠ .test) (g : CanFrame) : ManualGated (forwardToD g (override s)) := by
    have ho : ManualGated (override s) := by
      unfold override
      exact manualGated_of_same (manualGated_releaseControl (new := .manual) h hs (Or.inr rfl)) {}
    exact manualGated_forwardIdle g ho (Or.inr (by simp [override]))
  have aborts (hs : s.ctl.state = .test) (g : CanFrame) : ManualGated (forwardToD g (endTest .override s)) := by
    obtain ⟨p, hp, he⟩ := endTest_of_test .override h.test hs
    exact manualGated_forwardIdle g (manualGated_endTest .override h) (by simpa [he] using hp)
  unfold takeManual
  split <;> [exact manualGated_of_same h {}; skip]
  unfold gateManual
  split
  case h_1 hs => exact manualGated_forwardIdle _ h (Or.inl hs)
  case h_2 hs => exact manualGated_forwardIdle _ h (Or.inr hs)
  case h_6 hs => split <;> [exact aborts hs _; exact h]
  case h_7 => exact h
  case h_3 hs | h_4 hs | h_5 hs => split <;> [exact overrides (by simp [hs]) _; exact h]

/-- A frame that no block takes on Port U is no MANUAL_VALVE frame (R160). -/
theorem isManualValve_of_notTaken {node : BitVec 6} {p : Port} {id : Ident} {format : DataFormat} {data : List Byte}
    (h : (Instr.forwardedFrame p id format data).wellFormed node = true) (hp : p = .u) :
    isManualValve ⟨.ext id, .data format, data⟩ = false := by
  subst hp
  simp_all [Instr.wellFormed, takenByBlock, isManualValve]

theorem unclassified_of_wellFormed {node : BitVec 6} {p : Port} {f : CanFrame}
    (h : (Instr.unclassifiedFrame p f).wellFormed node = true) : unclassified f = true := by
  rw [Instr.wellFormed, Bool.and_eq_true] at h
  exact h.1

theorem manualGated_passUnclassified {s : State} (p : Port) {f : CanFrame} (h : ManualGated s)
    (hf : unclassified f = true) : ManualGated (passUnclassified p f s) := by
  unfold passUnclassified
  split <;> [skip; exact h]
  exact manualGated_of_same h (sameGate_forwardFrom s fun _ => isManualValve_of_unclassified hf)

/-! ## The step -/

/-- A command that can reach a part keeps the gate. -/
theorem manualGated_exec {s : State} {c : Instr} (hc : ∃ node, c.wellFormed node = true) (h : ManualGated s) :
    Yields ManualGated (exec c s) := by
  obtain ⟨node, hc⟩ := hc
  cases c with
  | powerOn straps =>
    show ManualGated (powerOn straps s)
    rw [powerOn_eq]
    exact manualGated_of_reset h rfl rfl rfl
  | strike f => exact manualGated_takeStrike f h
  | tilt f => exact manualGated_takeTiltFrame f h
  | sync f =>
    have ht : ManualGated (forwardTaken .d clsSync f s) := manualGated_forwardTaken .d f h (by decide)
    exact manualGated_of_same (t := takeSync (forwardTaken .d clsSync f s)) ht {}
  | manualValve f => exact manualGated_takeManual f h
  | forwardedFrame p id format data =>
    exact manualGated_of_same h (sameGate_forwardByTable id s (isManualValve_of_notTaken hc))
  | unclassifiedFrame p f => exact manualGated_passUnclassified p h (unclassified_of_wellFormed hc)
  | mgmtReqShortHeader prio src tag format byte => exact manualGated_of_same (t := dropMalformed s) h {}
  | unknownRequest code r => exact manualGated_refusal code r .unknown h
  | identify broadcast r => exact manualGated_identify broadcast r h
  | snapshot r => exact manualGated_answerRequest h fun _ t ht => manualGated_of_same (t := noteTarget t.chain.s t) ht {}
  | reset r => exact manualGated_takeReset r h
  | clearRun r => exact manualGated_answerRequest h fun _ t ht => manualGated_clearRun ht
  | paramRead r => exact manualGated_quietRequest h sameGate_paramRead
  | paramWrite r => exact manualGated_answerRequest h fun body t ht => manualGated_paramWrite body ht
  | loadBegin r => exact manualGated_quietRequest h sameGate_loadBegin
  | loadEntry r => exact manualGated_takeLoadEntry r h
  | loadCommit r => exact manualGated_quietRequest h sameGate_loadCommit
  | loadCancel r => exact manualGated_quietRequest h sameGate_loadCancel
  | readEntry r => exact manualGated_quietRequest h sameGate_readEntry
  | openRun r => exact manualGated_answerRequest h fun body t ht => manualGated_openRunRequest body ht
  | closeRun r => exact manualGated_answerRequest h fun _ t ht => manualGated_closeRun ht
  | bench r => exact manualGated_quietRequest h sameGate_bench
  | setDepth r => exact manualGated_quietRequest h sameGate_setDepthRequest
  | setModeAuto r => exact manualGated_answerRequest h fun body t ht => manualGated_takeModeAuto body ht
  | setModeManual r => exact manualGated_answerRequest h fun body t ht => manualGated_takeModeManual body ht
  | resume r => exact manualGated_answerRequest h fun _ t ht => manualGated_resume ht
  | clearTrip r => exact manualGated_answerRequest h fun _ t ht => manualGated_clearTrip ht
  | handover r => exact manualGated_answerRequest h fun body t ht => manualGated_handover body ht
  | adopt r => exact manualGated_quietRequest h sameGate_adopt
  | testStart r => exact manualGated_answerRequest h fun body t ht => manualGated_testStart body ht
  | testAbort r => exact manualGated_answerRequest h fun _ t ht => manualGated_testAbort ht
  | testResult r => exact manualGated_quietRequest h fun _ t => sameGate_rfl t
  | testApply r => exact manualGated_quietRequest h fun _ => sameGate_testApply
  | fwdWrite r => exact manualGated_quietRequest h sameGate_fwdWrite
  | fwdRead r => exact manualGated_quietRequest h sameGate_fwdRead
  | traceRead r => exact manualGated_quietRequest h fun _ => sameGate_traceRead
  | traceMark r => exact manualGated_quietRequest h fun _ t => sameGate_burst t _
  | traceUnmark r => exact manualGated_quietRequest h fun _ t => sameGate_burst t _
  | traceRewind r => exact manualGated_quietRequest h fun _ => sameGate_traceRewind
  | traceGate r => exact manualGated_quietRequest h sameGate_traceGate
  | eventRead r => exact manualGated_quietRequest h fun _ _ => sameGate_of_eq rfl rfl rfl rfl
  | maskWrite r => exact manualGated_quietRequest h sameGate_maskWrite
  | countersRead r => exact manualGated_quietRequest h fun _ t => sameGate_rfl t
  | countersClear r => exact manualGated_quietRequest h fun _ _ => sameGate_of_eq rfl rfl rfl rfl
  | portUFrameDeparture => exact manualGated_departU h
  | arbiterTakesFrame =>
    exact manualGated_of_same (t := { s with portD := arbiterTakes s.portD }) h
      { queue := fun _ hf _ => mem_queue_arbiterTakes hf }
  | lineLevelChange l high => exact manualGated_lineLevelChange l high h
  | acceptedOdoEdge => exact manualGated_filterExpiry .odo h
  | acceptedDirChange => exact manualGated_filterExpiry .dir h
  | acceptedDigChange => exact manualGated_filterExpiry .dig h
  | stopAcceptedActive =>
    show ManualGated (if s.lines.stop.active then s else filterExpiry .stop s)
    split <;> [exact h; exact manualGated_filterExpiry .stop h]
  | stopRelease =>
    show ManualGated (if s.lines.stop.active then filterExpiry .stop s else s)
    split <;> [exact manualGated_filterExpiry .stop h; exact h]
  | strikeTimeout c => exact manualGated_strikeTimeout c h
  | referenceTimeout => exact manualGated_referenceTimeout h
  | fadingTimeout => exact manualGated_fadingTimeout h
  | tiltExpiry => exact manualGated_of_same (t := tiltExpiry s) h {}
  | outputTick => exact manualGated_of_same (t := outputTick s) h {}
  | syncTimeout => exact manualGated_of_same (t := syncTimeout s) h {}
  | holdDistanceExpiry =>
    show ManualGated (if holdDistanceDue s then filterExpiry .odo s else s)
    split <;> [exact manualGated_filterExpiry .odo h; exact h]
  | dwellClearMoment => exact manualGated_firstStep h
  | stepTimerExpiry => exact manualGated_stepTimerExpiry h
  | noBeamTimeout => exact manualGated_noBeamTimeout h

/-- The expiries that an idle step puts into the queue are commands that reach a part. -/
theorem wellFormed_of_dueEvents {s : State} {c : Instr} (h : c ∈ dueEvents s) : ∃ node, c.wellFormed node = true := by
  have all : ∀ x ∈ expiries s, x.2.wellFormed 0 = true := by
    obtain hs | hs := stopExpiry_cases s <;> simp [expiries, hs, Instr.wellFormed]
  exact ⟨0, all _ ((mem_dueEvents s c).1 h)⟩

/-- The queue of commands changed for one whose commands all reach a part. -/
theorem manualGated_of_pending {s : State} (now : Clock) {l : List Instr} (n : Nat) (h : ManualGated s)
    (hl : ∀ c ∈ l, ∃ node, c.wellFormed node = true) : ManualGated { s with now := now, pending := l, choice := n } :=
  ⟨⟨h.test.running, h.test.prior, h.test.noPrior⟩, hl, h.queue⟩

theorem manualGated_idle {s : State} (h : ManualGated s) : ManualGated (idle s) := by
  unfold idle
  split
  · exact manualGated_of_pending _ _ h h.formed
  · rename_i e es hdue
    refine manualGated_of_pending _ _ h fun c hc => wellFormed_of_dueEvents (s := s) ?_
    rw [hdue]
    exact (arrange_perm _ _).mem_iff.1 hc

/-- The command a step takes is one that reaches a part, and so are those that stay. -/
theorem step_keeps_manualGated {s t : State} (h : ManualGated s) (hst : step s = .next t) : ManualGated t := by
  unfold step at hst
  split at hst
  · obtain rfl : idle s = t := by simpa using hst
    exact manualGated_idle h
  · rename_i c rest hp
    have hformed := h.formed
    rw [hp] at hformed
    obtain ⟨hc, hrest⟩ := List.forall_mem_cons.1 hformed
    have hy := manualGated_exec hc (manualGated_of_pending s.now s.choice h hrest)
    rw [hst] at hy
    exact hy

end Sys2Proof.Machine

namespace Sys2Proof.Scope

open Machine

/-- Settles O13: every command that can reach a part keeps the gate, and so does what an idle step puts in the queue. -/
theorem stepKeepsManualGated : Obligations.StepKeepsManualGated := fun _ _ h hst => step_keeps_manualGated h hst

end Sys2Proof.Scope
end

section
/-! The run's requests OPEN_RUN, CLOSE_RUN and SET_DEPTH (R46, R51, R53, R66, R76, R78, R79, R81, R156). -/

namespace Sys2Proof.Machine

/-! ## SET_DEPTH -/

theorem mem_allBeams (c : BeamCode) : c ∈ allBeams := by
  cases c <;> decide

theorem reference_isNone_iff (s : State) : (reference s).isNone = true ↔ ∀ c, isRef (beam s c) = false := by
  simp [reference, mem_allBeams]

theorem setDepth_of_not_free {s : State} (h : ¬ (s.ctl.state = .manual ∨ s.ctl.state = .suspended)) (v : Int) :
    setDepth v s = refuse .state s :=
  if_pos (by tauto)

theorem setDepth_of_no_reference {s : State} (h : s.ctl.state = .manual ∨ s.ctl.state = .suspended)
    (href : ∀ c, isRef (beam s c) = false) (v : Int) : setDepth v s = refuse .noData s := by
  rw [setDepth, if_neg (by tauto), if_pos ((reference_isNone_iff s).2 href)]

/-- D_set becomes the depth, or the nearer limit of its range (R81). -/
theorem setDepth_of_reference {s : State} {c : BeamCode} (h : s.ctl.state = .manual ∨ s.ctl.state = .suspended)
    (href : isRef (beam s c) = true) (v : Int) : setDepth v s =
      let d : Int := if v < 0 then 0 else if 60000 < v then 60000 else v
      ⟨if d = v then .ok else .clamped, signed4 d, setDepthSetting d s⟩ := by
  have hsome : ¬ (reference s).isNone = true := fun hn => by simp [(reference_isNone_iff s).1 hn c] at href
  rw [setDepth, if_neg (by tauto), if_neg hsome]
  rfl

/-! ## OPEN_RUN -/

theorem tablesLoaded_iff (s : State) : (!tablesLoaded s) = true ↔ s.store.active.entries = [] ∨
    s.store.tiltTable = none ∨ s.store.raiseMap = none ∨ s.store.lowerMap = none := by
  simp only [tablesLoaded, Bool.not_eq_true', Bool.and_eq_false_iff, decide_eq_false_iff_not, not_not,
    Option.isSome_eq_false_iff, Option.isNone_iff_eq_none, or_assoc]

theorem unread_pos_iff (t : Trace) : 0 < unread t ↔ t.tail ≠ t.read := by
  unfold unread
  bv_omega

theorem offsetsInRange_eq_false_iff (l : List Int) :
    (!offsetsInRange l) = true ↔ ∃ b ∈ l, b < -200000000 ∨ 200000000 < b := by
  simp [offsetsInRange, imp_iff_not_or]

theorem releaseControl_of_standby {s : State} (hs : s.ctl.state = .standby) (new : CtlState) :
    releaseControl new s = enterIdle new s := by
  simp only [releaseControl, hs]

/-- The run opened from STANDBY, in the statement's words (R66, R76, R78, R156). -/
theorem openRun_of_standby {start : Nat} {g : Int} {flag : Byte} {s : State} (hs : s.ctl.state = .standby) :
    openRun start g (flag ≠ 0) s = released .manual { s with
      store := { s.store with
        active := ⟨s.store.active.entries, g, baseOffsets g s.store.active.entries⟩ }
      run := ⟨(s.run.number + 1) % 65536, true, g, 0, false, start⟩
      chain := ⟨start, 0, start, start / s.params.traceStep, s.chain.dH⟩
      trace := if flag = 0 then { s.trace with seqNo := 0 } else ⟨0, 0, none, 0, [], s.trace.gateOpen⟩
      ctl := { s.ctl with memory := 0 } } := by
  have htrace : (if decide (flag ≠ 0) = true then clearedTrace s.trace else { s.trace with seqNo := 0 }) =
      if flag = 0 then { s.trace with seqNo := 0 } else ⟨0, 0, none, 0, [], s.trace.gateOpen⟩ := by
    by_cases hf : flag = 0 <;> simp [hf, clearedTrace]
  rw [← htrace, ← releaseControl_eq (by decide)]
  refine ((releaseControl_of_standby ?_ .manual).trans rfl).symm
  exact hs

/-! ## CLOSE_RUN -/

/-- The end of a run from MANUAL or SUSPENDED, in the statement's words (R51, R76, R79). -/
theorem closeRun_of_free {s : State} (hs : s.ctl.state = .manual ∨ s.ctl.state = .suspended) : closeRun s =
    ⟨.ok, bytes2 s.run.number, released .standby
      { (if s.store.takeover.isSome then swapped s else s) with
        run := { s.run with isOpen := false, benched := false, dSet := 0 } }⟩ := by
  have hend : endRun (finishTakeover s) = { (if s.store.takeover.isSome then swapped s else s) with
      run := { s.run with isOpen := false, benched := false, dSet := 0 } } := by
    have hrun : (finishTakeover s).run = s.run := by simp
    rw [endRun, hrun]
    rfl
  have hnumber : runNumberBody (releaseControl .standby (endRun (finishTakeover s))) = bytes2 s.run.number := by
    simp [runNumberBody, endRun]
  rw [← hnumber, ← hend, ← releaseControl_eq (by decide)]
  exact if_pos hs

end Sys2Proof.Machine

namespace Sys2Proof.Scope

open Machine

/-- Settles O45: the two checks in their order, and the clamp. -/
theorem setDepthClamps : Obligations.SetDepthClamps := by
  intro r s b0 b1 b2 b3 hbody v d sends free
  have run : exec (.setDepth r) s = .next (answerRequest codeSetDepth 4 r setDepthRequest s) := rfl
  have hsends {act : State → Answer} (h : ∀ t, SameButQueues s t → setDepth v t = act t) : sends act :=
    run.trans ((next_answerRequest 4 hbody rfl).trans (answered_ext h))
  have hfree {t : State} (ht : SameButQueues s t) (h : free) : t.ctl.state = .manual ∨ t.ctl.state = .suspended := by
    obtain ⟨-, -, -, -, -, -, -, -, -, hctl, -⟩ := ht
    rwa [hctl]
  refine ⟨fun h => hsends ?_, fun h hnone => hsends ?_, ?_⟩
  · rintro t ⟨-, -, -, -, -, -, -, -, -, hctl, -⟩
    exact setDepth_of_not_free (by rwa [hctl]) v
  · intro t ht
    obtain ⟨-, -, -, -, -, hbeams, -⟩ := id ht
    exact setDepth_of_no_reference (hfree ht h) (by rwa [beam_congr hbeams]) v
  · rintro h ⟨c, hc⟩
    refine hsends fun t ht => ?_
    obtain ⟨-, -, -, -, -, hbeams, -, -, hrun, -⟩ := id ht
    have hc' : isRef (beam t c) = true := by rwa [beam_congr hbeams]
    simp only [setDepth_of_reference (hfree ht h) hc' v, setDepthSetting, hrun]
    rfl

/-- Settles O43: the checks of OPEN_RUN one by one, and each run's opening and end as the statement spells it. -/
theorem openAndCloseRun : Obligations.OpenAndCloseRun := by
  refine ⟨fun r s c0 c1 c2 c3 g0 g1 flag hbody => ?_, fun r s hbody => ?_⟩
  · intro start g entries offsets number
    have run : exec (.openRun r) s = .next (answerRequest codeOpenRun 7 r openRunRequest s) := rfl
    refine run.trans ((next_answerRequest 7 hbody rfl).trans (answered_ext ?_))
    rintro t ⟨-, -, hparams, -, hchain, -, -, hstore, hrun, hctl, -, -, -, -, htrace, -⟩
    show takeOpenRun start g (flag ≠ 0) t = _
    unfold takeOpenRun
    by_cases hstandby : s.ctl.state = .standby
    · rw [if_neg (show ¬ t.ctl.state ≠ .standby by rw [hctl]; exact not_not.2 hstandby),
        if_neg (show ¬ s.ctl.state ≠ .standby from not_not.2 hstandby)]
      refine if_congr Iff.rfl rfl (if_congr ?_ rfl (if_congr ?_ rfl (if_congr ?_ rfl ?_)))
      · rw [tablesLoaded_iff, hstore]
      · simp [unread_pos_iff, htrace]
      · rw [offsetsInRange_eq_false_iff, hstore]
      · have hopen := openRun_of_standby (start := start) (g := g) (flag := flag) (s := t) (by rwa [hctl])
        have hnumber : runNumberBody (openRun start g (flag ≠ 0) t) = bytes2 number := by
          simp [runNumberBody, openRun, hrun, number]
        show done (runNumberBody (openRun start g (flag ≠ 0) t)) (openRun start g (flag ≠ 0) t) = _
        rw [hnumber, hopen, hrun, hstore, hchain, htrace, hctl, hparams]
        rfl
    · rw [if_pos (by rwa [hctl]), if_pos hstandby]
  · have run : exec (.closeRun r) s = .next (answerRequest codeCloseRun 0 r (fun _ => closeRun) s) := rfl
    refine run.trans ((next_answerRequest 0 hbody rfl).trans (answered_ext ?_))
    rintro t ⟨-, -, -, -, -, -, -, hstore, hrun, hctl, -⟩
    by_cases hfree : s.ctl.state = .manual ∨ s.ctl.state = .suspended
    · rw [if_neg (by tauto), closeRun_of_free (by rwa [hctl]), hstore, hrun]
    · rw [if_pos (by tauto), closeRun, hctl, if_neg hfree]

end Sys2Proof.Scope
end

section
/-! The mode requests SET_MODE, RESUME and CLEAR_TRIP (R13, R17, R18, R76, R82, R83, R87, R92; log 9, 34, 39). -/

namespace Sys2Proof.Machine

/-- The four conditions of R82: the run benched, the tilt fresh, and through an entry in REFERENCE a measured depth that is
present and fresh. -/
def AutoReady (s : State) : Prop :=
  s.run.benched = true ∧ s.tilt.fresh = true ∧ s.store.tiltTable.isSome = true ∧
    ∃ c h, (beam s c).state = .reference ∧ (beam s c).accepted = some h ∧ age s.now.ms h.time ≤ s.params.strikeTmo

theorem steadyReference_isRef {s : State} {c : BeamCode} (h : steadyReference s = some c) :
    (beam s c).state = .reference := by
  simpa using List.find?_some h

/-- The measured depth through an entry is present and fresh (R17, R18). -/
theorem depthThrough_fresh_iff (e : Beam) (o : Int) (s : State) :
    ((depthThrough e o s).isSome && freshBeam e s) = true ↔ s.store.tiltTable.isSome = true ∧
      ∃ h, e.accepted = some h ∧ age s.now.ms h.time ≤ s.params.strikeTmo := by
  cases he : e.accepted <;> cases ht : s.store.tiltTable <;> simp [depthThrough, freshBeam, measuredAge, he, ht]

theorem autoReady_iff {s : State} (hs : BeamsSound s) : autoReady s = true ↔ AutoReady s := by
  unfold autoReady AutoReady
  simp only [Bool.and_eq_true, and_assoc]
  refine and_congr_right fun _ => and_congr_right fun _ => ?_
  constructor
  · intro hready
    split at hready <;> [skip; contradiction]
    rename_i c hc
    obtain ⟨htable, h, haccepted, hage⟩ := (depthThrough_fresh_iff _ _ s).1 hready
    exact ⟨htable, c, h, steadyReference_isRef hc, haccepted, hage⟩
  · rintro ⟨htable, c, h, hst, haccepted, hage⟩
    rw [steadyReference_eq_some hs hst]
    exact (depthThrough_fresh_iff _ _ s).2 ⟨htable, h, haccepted, hage⟩

/-- What AUTO asks for is read beside the queues. -/
theorem autoReady_congr {s t : State} (h : SameButQueues s t) : autoReady t = autoReady s := by
  obtain ⟨hnow, -, hparams, -, -, hbeams, htilt, hstore, hrun, -⟩ := h
  have href : steadyReference t = steadyReference s := steadyReference_states fun d => by rw [beam_congr hbeams]
  simp only [autoReady, href, depthThrough, freshBeam, measuredAge, beam_congr hbeams, hnow, hparams, htilt, hstore, hrun]

/-- The request for AUTO from one state: SET_MODE's from MANUAL, RESUME's from SUSPENDED (R82, R87). -/
def autoRequest (home : CtlState) (s : State) : Answer :=
  if s.ctl.state = home ∧ autoReady s = true then ⟨.ok, [], autoEntered s⟩ else refuse .state s

theorem setModeAuto_eq (s : State) : setModeAuto s = autoRequest .manual s := by
  rw [setModeAuto, enterAuto_eq]
  rfl

theorem resume_eq (s : State) : resume s = autoRequest .suspended s := by
  rw [resume, enterAuto_eq]
  rfl

/-- The request is judged on the state before its own frame is forwarded. -/
theorem autoRequest_of_same {home : CtlState} {s t : State} (ht : SameButQueues s t) (hs : BeamsSound s) :
    (s.ctl.state = home ∧ AutoReady s → autoRequest home t = ⟨.ok, [], autoEntered t⟩) ∧
    (¬ (s.ctl.state = home ∧ AutoReady s) → autoRequest home t = refuse .state t) := by
  obtain ⟨-, -, -, -, -, -, -, -, -, hctl, -⟩ := id ht
  have hready : t.ctl.state = home ∧ autoReady t = true ↔ s.ctl.state = home ∧ AutoReady s := by
    rw [hctl, autoReady_congr ht, autoReady_iff hs]
  exact ⟨fun h => if_pos (hready.2 h), fun h => if_neg (mt hready.1 h)⟩

theorem setModeManual_eq (s : State) : setModeManual s =
    if s.ctl.state = .auto ∨ s.ctl.state = .hold ∨ s.ctl.state = .suspended then ⟨.ok, [], released .manual s⟩
    else refuse .state s := by
  rw [setModeManual, releaseControl_eq (by decide)]
  rfl

theorem idleState_ne_auto (s : State) : idleState s ≠ .auto := by
  unfold idleState
  split <;> decide

/-- CLEAR_TRIP from TRIPPED, with STOP INACTIVE (R92). -/
theorem clearTrip_eq (s : State) : clearTrip s =
    if s.ctl.state = .tripped ∧ s.lines.stop.active = false then
      ⟨.ok, [], released (if s.run.isOpen = true then .manual else .standby) s⟩
    else refuse .state s := by
  rw [clearTrip, releaseControl_eq (idleState_ne_auto s)]
  by_cases hclear : s.ctl.state = .tripped ∧ s.lines.stop.active = false
  · rw [if_pos hclear, if_neg (by simp [hclear])]
    rfl
  · rw [if_neg hclear, if_pos (by simpa [imp_iff_not_or] using hclear)]

end Sys2Proof.Machine

namespace Sys2Proof.Scope

open Machine

/-- Settles O46: each request by its condition, read of the state before the request's own frame is forwarded. -/
theorem modeRequests : Obligations.ModeRequests := by
  intro r s ready ok
  refine ⟨fun m hbody => ?_, fun hbody => ?_⟩
  · have runAuto : exec (.setModeAuto r) s = .next (answerRequest codeSetMode 1 r takeModeAuto s) := rfl
    have runManual : exec (.setModeManual r) s = .next (answerRequest codeSetMode 1 r takeModeManual s) := rfl
    have auto {act : State → Answer} (h : ∀ t, SameButQueues s t → takeModeAuto [m] t = act t) :
        exec (.setModeAuto r) s = answered 0x34 r s act :=
      runAuto.trans ((next_answerRequest 1 hbody rfl).trans (answered_ext h))
    have htake (hm : m = 1) (t : State) : takeModeAuto [m] t = autoRequest .manual t :=
      (if_pos hm).trans (setModeAuto_eq t)
    refine ⟨fun hm hs hyes => auto fun t ht => ?_, fun hm hs hno => auto fun t ht => ?_,
      fun hm => auto fun t _ => if_neg hm, fun hm => ?_⟩
    · exact (htake hm t).trans ((autoRequest_of_same ht hs).1 hyes)
    · exact (htake hm t).trans ((autoRequest_of_same ht hs).2 hno)
    · refine runManual.trans ((next_answerRequest 1 hbody rfl).trans (answered_ext fun t ht => ?_))
      obtain ⟨-, -, -, -, -, -, -, -, -, hctl, -⟩ := ht
      have hmanual : takeModeManual [m] t = setModeManual t := if_pos hm
      rw [hmanual, setModeManual_eq, hctl]
      split <;> rfl
  · have runResume : exec (.resume r) s = .next (answerRequest codeResume 0 r (fun _ => resume) s) := rfl
    have runClear : exec (.clearTrip r) s = .next (answerRequest codeClearTrip 0 r (fun _ => clearTrip) s) := rfl
    have resumes {act : State → Answer} (h : ∀ t, SameButQueues s t → resume t = act t) :
        exec (.resume r) s = answered 0x35 r s act :=
      runResume.trans ((next_answerRequest 0 hbody rfl).trans (answered_ext h))
    refine ⟨fun hs hyes => resumes fun t ht => ?_, fun hs hno => resumes fun t ht => ?_, ?_⟩
    · exact (resume_eq t).trans ((autoRequest_of_same ht hs).1 hyes)
    · exact (resume_eq t).trans ((autoRequest_of_same ht hs).2 hno)
    · refine runClear.trans ((next_answerRequest 0 hbody rfl).trans (answered_ext ?_))
      rintro t ⟨-, -, -, hlines, -, -, -, -, hrun, hctl, -⟩
      rw [clearTrip_eq, hctl, hlines, hrun]
      split <;> rfl

end Sys2Proof.Scope
end

section
/-! TEST_START and TEST_APPLY (R90, R120, R123, R133, R134, R141, R168; log 36, log 41). -/

namespace Sys2Proof.Machine

/-! ## TEST_START: the test beam -/

/-- An entry that may serve a test where there is no reference (R133). -/
def Usable (e : Beam) : Prop := e.state = .tracking ∨ e.state = .established

theorem chooseTestBeam_of_no_reference {s : State} (h : ∀ c, isRef (beam s c) = false) : chooseTestBeam s =
    allBeams.find? (fun c => (beam s c).state = .tracking || (beam s c).state = .established) := by
  rw [chooseTestBeam, reference_eq_none h]

theorem chooseTestBeam_eq_none {s : State} (h : ∀ c, isRef (beam s c) = false ∧ ¬ Usable (beam s c)) :
    chooseTestBeam s = none := by
  rw [chooseTestBeam_of_no_reference fun c => (h c).1, List.find?_eq_none]
  intro c _
  obtain ⟨-, hc⟩ := h c
  simpa [Usable] using hc

/-- The first beam of a list of increasing codes is the one of the lowest code. -/
theorem find?_allBeams_eq_some {p : BeamCode → Bool} {c : BeamCode} (hc : p c = true)
    (hlow : ∀ d, p d = true → beamNat c ≤ beamNat d) : allBeams.find? p = some c := by
  have hbefore : ∀ d, beamNat d < beamNat c → p d = false := fun d hd => by
    by_contra hp
    exact absurd (hlow d (by simpa using hp)) (by omega)
  cases c with
  | b0 => simp [allBeams, hc]
  | b1 => simp [allBeams, hc, hbefore .b0 (by decide)]
  | b2 => simp [allBeams, hc, hbefore .b0 (by decide), hbefore .b1 (by decide)]
  | b3 => simp [allBeams, hc, hbefore .b0 (by decide), hbefore .b1 (by decide), hbefore .b2 (by decide)]

/-- The test beam is the reference, else the lowest one in TRACKING or ESTABLISHED (R133). -/
theorem chooseTestBeam_eq_some {s : State} {c : BeamCode} (hs : BeamsSound s)
    (hc : isRef (beam s c) = true ∨
      (Usable (beam s c) ∧ ∀ d, isRef (beam s d) = false ∧ (Usable (beam s d) → beamNat c ≤ beamNat d))) :
    chooseTestBeam s = some c := by
  obtain hc | ⟨hc, hlow⟩ := hc
  · rw [chooseTestBeam, reference_eq_some hs ((isRef_iff _).1 hc)]
  · rw [chooseTestBeam_of_no_reference fun d => (hlow d).1]
    refine find?_allBeams_eq_some (by simpa [Usable] using hc) fun d hd => ?_
    obtain ⟨-, hle⟩ := hlow d
    exact hle (by simpa [Usable] using hd)

theorem chooseTestBeam_congr {s t : State} (h : t.beams = s.beams) : chooseTestBeam t = chooseTestBeam s := by
  simp only [chooseTestBeam, reference_congr h, beam_congr h]

/-! ## TEST_START: its checks -/

theorem testStart_of_not_free {s : State} (h : ¬ (s.ctl.state = .standby ∨ s.ctl.state = .manual)) (body : List Byte) :
    testStart body s = refuse .state s :=
  if_pos (by tauto)

theorem dirOfByte_eq_none {b : Byte} (h : b ≠ 1 ∧ b ≠ 2) : dirOfByte b = none := by
  unfold dirOfByte
  split
  · bv_omega
  · bv_omega
  · rfl

theorem dirOfByte_eq_some {b : Byte} (h : b = 1 ∨ b = 2) : dirOfByte b = some (if b = 1 then .raise else .lower) := by
  obtain rfl | rfl := h <;> decide

theorem testStart_of_range {s : State} {b : Byte} (hs : s.ctl.state = .standby ∨ s.ctl.state = .manual)
    (h : (b ≠ 1 ∧ b ≠ 2) ∨ s.params.vtMax < s.params.vtStart) : testStart [b] s = refuse .range s := by
  rw [testStart, if_neg (by tauto)]
  by_cases hb : b ≠ 1 ∧ b ≠ 2
  · simp [dirOfByte_eq_none hb]
  · simp [dirOfByte_eq_some (b := b) (by tauto), h.resolve_left hb]

theorem testStart_of_no_beam {s : State} {b : Byte} (hs : s.ctl.state = .standby ∨ s.ctl.state = .manual)
    (hb : b = 1 ∨ b = 2) (hmax : s.params.vtStart ≤ s.params.vtMax) (hnone : chooseTestBeam s = none) :
    testStart [b] s = refuse .noData s := by
  rw [testStart, if_neg (by tauto)]
  simp only [List.getD_cons_zero, dirOfByte_eq_some hb, if_neg (not_lt.2 hmax), hnone]

/-- A request that passes the first checks is judged by its test beam (R133). -/
theorem testStart_of_beam {s : State} {b : Byte} {c : BeamCode} {x : Height}
    (hs : s.ctl.state = .standby ∨ s.ctl.state = .manual) (hb : b = 1 ∨ b = 2)
    (hmax : s.params.vtStart ≤ s.params.vtMax) (hc : chooseTestBeam s = some c) (hx : (beam s c).accepted = some x) :
    testStart [b] s = if takenFresh (beam s c) s then
        done (beamByte c :: signed2 x.b) (startTest (if b = 1 then .raise else .lower) c x.b s)
      else refuse .noData s := by
  rw [testStart, if_neg (by tauto)]
  simp only [List.getD_cons_zero, dirOfByte_eq_some hb, if_neg (not_lt.2 hmax), hc, hx]

theorem takenFresh_iff {e : Beam} {h : Height} {s : State} (hh : e.accepted = some h) :
    takenFresh e s = true ↔ e.state ≠ .fading ∧ age s.now.ms h.time ≤ s.params.strikeTmo := by
  rw [takenFresh, Bool.and_eq_true, freshBeam_iff hh, decide_eq_true_iff]

/-! ## TEST_START: the start -/

/-- TEST entered for a run, in the statement's words (R90, R168). -/
def testEntered (run : TestRun) (s : State) : State :=
  writeTravel ⟨0, .test⟩ (manualDiscarded { s with
    test := ⟨.waiting run, s.test.result⟩
    ctl := { s.ctl with state := .test, prior := some s.ctl.state } })

theorem enterTest_eq {s : State} (run : TestRun) (hs : s.ctl.state = .standby ∨ s.ctl.state = .manual) :
    enterTest { s with test := { s.test with phase := .waiting run } } = testEntered run s := by
  have hauto : ¬ ((CtlState.test = .auto) ∨ s.ctl.state = .auto) := by obtain hs | hs := hs <;> simp [hs]
  simp only [enterTest, setState, if_neg hauto]
  rfl

/-- The first step is written within the start once the dwell has passed (R134, log 41). -/
theorem startTest_eq {s : State} {d : Dir} {c : BeamCode} {b : Int} {run : TestRun}
    (hrun : run = ⟨d, c, b, s.now.ms, s.now.ms⟩) (hs : s.ctl.state = .standby ∨ s.ctl.state = .manual)
    (hmax : s.params.vtStart ≤ s.params.vtMax) : startTest d c b s =
      if dwellPassed d s = true then stepTaken run s.params.vtStart (testEntered run s) else testEntered run s := by
  have henter : startTest d c b s = firstStep (testEntered run s) := by
    rw [← enterTest_eq run hs, hrun]
    rfl
  have hphase : (testEntered run s).test.phase = .waiting run := by simp [testEntered, manualDiscarded]
  have hstate : (testEntered run s).ctl.state = .test := by simp [testEntered, manualDiscarded]
  have hparams : (testEntered run s).params = s.params := by simp [testEntered, manualDiscarded]
  have hdwell : dwellClear d (testEntered run s) = dwellPassed d s := by
    simp [dwellClear_eq, dwellPassed, testEntered, manualDiscarded]
  have hdir : run.dir = d := by rw [hrun]
  rw [henter, firstStep, hphase]
  simp only [hdir, hdwell, hparams, if_neg (not_lt.2 hmax), writeStep_eq run _ hstate]

/-! ## TEST_APPLY -/

theorem testApply_of_busy {s : State} (h : s.ctl.state = .auto ∨ s.ctl.state = .hold ∨ s.ctl.state = .test) :
    testApply s = refuse .state s :=
  if_pos h

theorem testApply_of_not_found {s : State} (h : ¬ (s.ctl.state = .auto ∨ s.ctl.state = .hold ∨ s.ctl.state = .test))
    (ho : s.test.result.outcome ≠ .found) : testApply s = refuse .range s := by
  rw [testApply, if_neg h]
  split
  · rename_i hfound _ _
    exact absurd hfound ho
  · rfl

theorem testApply_of_no_map {s : State} {d : Dir} {i : Nat}
    (h : ¬ (s.ctl.state = .auto ∨ s.ctl.state = .hold ∨ s.ctl.state = .test))
    (ho : s.test.result.outcome = .found) (hd : s.test.result.dir = some d) (hi : s.test.result.current = some i)
    (hm : valveMap d s = none) : testApply s = refuse .noData s := by
  rw [testApply, if_neg h]
  simp only [ho, hd, hi, hm]

/-- The record of a FOUND test names the map and the current (R132, R141). -/
theorem testApply_of_map {s : State} {d : Dir} {i : Nat} {m : List MapPoint}
    (h : ¬ (s.ctl.state = .auto ∨ s.ctl.state = .hold ∨ s.ctl.state = .test))
    (ho : s.test.result.outcome = .found) (hd : s.test.result.dir = some d) (hi : s.test.result.current = some i)
    (hm : valveMap d s = some m) : testApply s =
      if i = 0 ∨ ((m.getD 1 ⟨0, 0⟩).i < i) then refuse .range s
      else done (bytes2 i) (setValveMap d (applyCurrent i m) s) := by
  rw [testApply, if_neg h]
  simp only [ho, hd, hi, hm]

theorem valveMap_eq (d : Dir) (s : State) :
    valveMap d s = if d = .raise then s.store.raiseMap else s.store.lowerMap := by
  cases d <;> rfl

theorem setValveMap_eq (d : Dir) (m : List MapPoint) (s : State) : setValveMap d m s = { s with store :=
    if d = .raise then { s.store with raiseMap := some m } else { s.store with lowerMap := some m } } := by
  cases d <;> rfl

end Sys2Proof.Machine

namespace Sys2Proof.Scope

open Machine

/-- Settles O50: the checks of each request in their order, and the start on the beam that is chosen. -/
theorem testStartAndApply : Obligations.TestStartAndApply := by
  refine ⟨fun r s b hbody => ?_, fun r s hbody => ?_⟩
  · intro sends free usable
    have run : exec (.testStart r) s = .next (answerRequest codeTestStart 1 r testStart s) := rfl
    have hsends {act : State → Answer} (h : ∀ t, SameButQueues s t → testStart [b] t = act t) : sends act :=
      run.trans ((next_answerRequest 1 hbody rfl).trans (answered_ext h))
    have hfree {t : State} (ht : SameButQueues s t) (h : free) : t.ctl.state = .standby ∨ t.ctl.state = .manual := by
      obtain ⟨-, -, -, -, -, -, -, -, -, hctl, -⟩ := ht
      rwa [hctl]
    refine ⟨fun hn => hsends ?_, fun h hrange => hsends fun t ht => ?_, fun h hb hmax => ⟨fun hnone => ?_, ?_⟩⟩
    · rintro t ⟨-, -, -, -, -, -, -, -, -, hctl, -⟩
      exact testStart_of_not_free (by rwa [hctl]) _
    · obtain ⟨-, -, hparams, -⟩ := id ht
      exact testStart_of_range (hfree ht h) (by rwa [hparams])
    · refine hsends fun t ht => ?_
      obtain ⟨-, -, hparams, -, -, hbeams, -⟩ := id ht
      exact testStart_of_no_beam (hfree ht h) hb (by rwa [hparams])
        ((chooseTestBeam_congr hbeams).trans (chooseTestBeam_eq_none hnone))
    · intro c x hs hx hc
      have hjudged {t : State} (ht : SameButQueues s t) : testStart [b] t =
          if takenFresh (beam s c) t then
            done (beamByte c :: signed2 x.b) (startTest (if b = 1 then .raise else .lower) c x.b t)
          else refuse .noData t := by
        obtain ⟨-, -, hparams, -, -, hbeams, -⟩ := id ht
        rw [← beam_congr hbeams]
        exact testStart_of_beam (hfree ht h) hb (by rwa [hparams])
          ((chooseTestBeam_congr hbeams).trans (chooseTestBeam_eq_some hs hc)) (by rwa [beam_congr hbeams])
      have hfresh {t : State} (ht : SameButQueues s t) : takenFresh (beam s c) t = true ↔
          (beam s c).state ≠ .fading ∧ age s.now.ms x.time ≤ s.params.strikeTmo := by
        obtain ⟨hnow, -, hparams, -⟩ := ht
        rw [takenFresh_iff hx, hnow, hparams]
      refine ⟨fun hstale => hsends fun t ht => ?_, fun hage hst => ?_⟩
      · rw [hjudged ht, if_neg]
        rw [hfresh ht]
        rintro ⟨hst, hage⟩
        exact hstale.elim (fun hlt => absurd hage (not_le.2 hlt)) hst
      · intro run entered
        refine hsends fun t ht => ?_
        rw [hjudged ht, if_pos ((hfresh ht).2 ⟨hst, hage⟩)]
        obtain ⟨hnow, -, hparams, -, -, -, -, -, -, hctl, hdepth, -, -, htest, -⟩ := id ht
        have hentered : testEntered run t = entered t := by rw [testEntered, htest, hctl]
        have hdwell : dwellPassed run.dir t = dwellPassed run.dir s := by simp only [dwellPassed, hdepth, hparams, hnow]
        rw [startTest_eq (run := run) (by rw [hnow]) (hfree ht h) (by rwa [hparams]), ← hentered, ← hdwell, hparams]
        rfl
  · intro sends busy
    have run : exec (.testApply r) s = .next (answerRequest codeTestApply 0 r (fun _ => testApply) s) := rfl
    have hsends {act : State → Answer} (h : ∀ t, SameButQueues s t → testApply t = act t) : sends act :=
      run.trans ((next_answerRequest 0 hbody rfl).trans (answered_ext h))
    refine ⟨fun h => hsends ?_, fun h ho => hsends ?_, fun d i h ho hd hi => ?_⟩
    · rintro t ⟨-, -, -, -, -, -, -, -, -, hctl, -⟩
      exact testApply_of_busy (by rwa [hctl])
    · rintro t ⟨-, -, -, -, -, -, -, -, -, hctl, -, -, -, htest, -⟩
      exact testApply_of_not_found (by rwa [hctl]) (by rwa [htest])
    · intro map
      have hsame {t : State} (ht : SameButQueues s t) : t.ctl = s.ctl ∧ t.test = s.test ∧ valveMap d t = map := by
        obtain ⟨-, -, -, -, -, -, -, hstore, -, hctl, -, -, -, htest, -⟩ := ht
        exact ⟨hctl, htest, by rw [valveMap_eq, hstore]⟩
      refine ⟨fun hmap => hsends fun t ht => ?_, fun p q rest hmap => ?_⟩
      · obtain ⟨hctl, htest, hm⟩ := hsame ht
        exact testApply_of_no_map (d := d) (i := i) (by rwa [hctl]) (by rwa [htest]) (by rwa [htest]) (by rwa [htest])
          (hm.trans hmap)
      · have hjudged {t : State} (ht : SameButQueues s t) : testApply t = if i = 0 ∨ q.i < i then refuse .range t
            else done (bytes2 i) (setValveMap d (⟨p.d, i⟩ :: q :: rest) t) := by
          obtain ⟨hctl, htest, hm⟩ := hsame ht
          exact testApply_of_map (by rwa [hctl]) (by rwa [htest]) (by rwa [htest]) (by rwa [htest]) (hm.trans hmap)
        refine ⟨fun hrange => hsends fun t ht => ?_, fun hpos hle => hsends fun t ht => ?_⟩
        · exact (hjudged ht).trans (if_pos hrange)
        · obtain ⟨-, -, -, -, -, -, -, hstore, -⟩ := id ht
          rw [hjudged ht, if_neg (show ¬ (i = 0 ∨ q.i < i) by omega), setValveMap_eq, hstore]
          rfl

end Sys2Proof.Scope
end

section
/-! The depth demand (R100, R101), its slew limit (R104), and the travel limit (R107, R108). -/

namespace Sys2Proof.Machine

/-! ## The raw demand -/

/-- Within P_WINDOW there is nothing to correct (R101). -/
theorem rawDemand_of_within {e : Int} {p : Params} (h : e.natAbs ≤ p.window) : rawDemand e p = 0 := by
  simp [rawDemand, h]

/-- Beyond P_WINDOW the magnitude is capped by P_UMAX and the sign is the error's (R100). -/
theorem rawDemand_of_beyond {e : Int} {p : Params} (h : p.window < e.natAbs) : rawDemand e p =
    if 0 < e then ((min p.umax (p.umin + p.gain * (e.natAbs - p.window)) : Nat) : Int)
    else -((min p.umax (p.umin + p.gain * (e.natAbs - p.window)) : Nat) : Int) := by
  simp [rawDemand, not_le.2 h, Nat.cast_sub h.le]

theorem natAbs_rawDemand_of_beyond {e : Int} {p : Params} (h : p.window < e.natAbs) :
    (rawDemand e p).natAbs = min p.umax (p.umin + p.gain * (e.natAbs - p.window)) := by
  rw [rawDemand_of_beyond h]
  split <;> [exact Int.natAbs_natCast _; exact (Int.natAbs_neg _).trans (Int.natAbs_natCast _)]

/-- No raw demand exceeds P_UMAX (R100). -/
theorem natAbs_rawDemand_le (e : Int) (p : Params) : (rawDemand e p).natAbs ≤ p.umax := by
  obtain h | h := le_or_gt e.natAbs p.window
  · simp [rawDemand_of_within h]
  · exact (natAbs_rawDemand_of_beyond h).trans_le (min_le_left _ _)

/-! ## The slew limit -/

theorem slewLimit_zero (prev : Int) (slew : Nat) : slewLimit 0 prev slew = 0 := rfl

/-- RAISE starts from 0 or goes on from RAISE, a rise being limited; after LOWER it is first 0 (R104). -/
theorem slewLimit_of_pos {raw : Int} (h : 0 < raw) (prev : Int) (slew : Nat) : slewLimit raw prev slew =
    if prev < 0 then 0 else if prev < raw then min raw (prev + slew) else raw := by
  unfold slewLimit
  split_ifs <;> omega

/-- LOWER mirrors RAISE (R104). -/
theorem slewLimit_neg (raw prev : Int) (slew : Nat) : slewLimit (-raw) (-prev) slew = -slewLimit raw prev slew := by
  unfold slewLimit
  split_ifs <;> omega

theorem slewLimit_of_neg {raw : Int} (h : raw < 0) (prev : Int) (slew : Nat) : slewLimit raw prev slew =
    if 0 < prev then 0 else if raw < prev then max raw (prev - slew) else raw := by
  have hmirror := slewLimit_neg (-raw) (-prev) slew
  rw [neg_neg, neg_neg, slewLimit_of_pos (Int.neg_pos_of_neg h)] at hmirror
  rw [hmirror]
  split_ifs <;> omega

/-- The slew limit never adds to the raw magnitude (R104). -/
theorem natAbs_slewLimit_le (raw prev : Int) (slew : Nat) : (slewLimit raw prev slew).natAbs ≤ raw.natAbs := by
  obtain h | rfl | h := lt_trichotomy raw 0
  · rw [slewLimit_of_neg h]
    split_ifs <;> omega
  · rfl
  · rw [slewLimit_of_pos h]
    split_ifs <;> omega

/-- From 0 the demand starts with at most P_SLEW (R104). -/
theorem slewLimit_from_zero {raw : Int} (h : raw ≠ 0) (slew : Nat) :
    (slewLimit raw 0 slew).natAbs = min raw.natAbs slew ∧ (0 < raw → 0 ≤ slewLimit raw 0 slew) ∧
    (raw < 0 → slewLimit raw 0 slew ≤ 0) := by
  obtain h | h := lt_or_gt_of_ne h
  · rw [slewLimit_of_neg h, if_neg (lt_irrefl 0), if_pos h]
    omega
  · rw [slewLimit_of_pos h, if_neg (lt_irrefl 0), if_pos h]
    omega

/-- A rise in the same direction is limited to P_SLEW more (R104). -/
theorem slewLimit_of_rise {raw prev : Int} (hsame : 0 < raw * prev) (hrise : prev.natAbs < raw.natAbs) (slew : Nat) :
    (slewLimit raw prev slew).natAbs = min raw.natAbs (prev.natAbs + slew) ∧ 0 < slewLimit raw prev slew * raw := by
  obtain ⟨hraw, hprev⟩ | ⟨hraw, hprev⟩ := mul_pos_iff.1 hsame
  · rw [slewLimit_of_pos hraw, if_neg hprev.not_gt, if_pos (by omega)]
    exact ⟨by omega, mul_pos (by omega) hraw⟩
  · rw [slewLimit_of_neg hraw, if_neg hprev.not_gt, if_pos (by omega)]
    exact ⟨by omega, mul_pos_of_neg_of_neg (by omega) hraw⟩

/-- A falling or equal magnitude in the same direction is taken whole (R104). -/
theorem slewLimit_of_fall {raw prev : Int} (hsame : 0 < raw * prev) (hfall : raw.natAbs ≤ prev.natAbs) (slew : Nat) :
    slewLimit raw prev slew = raw := by
  obtain ⟨hraw, hprev⟩ | ⟨hraw, hprev⟩ := mul_pos_iff.1 hsame
  · rw [slewLimit_of_pos hraw, if_neg hprev.not_gt, if_neg (by omega)]
  · rw [slewLimit_of_neg hraw, if_neg hprev.not_gt, if_neg (by omega)]

/-- A reversal goes through 0 (R104). -/
theorem slewLimit_of_reversal {raw prev : Int} (hturn : raw * prev < 0) (slew : Nat) : slewLimit raw prev slew = 0 := by
  obtain ⟨hraw, hprev⟩ | ⟨hraw, hprev⟩ := mul_neg_iff.1 hturn
  · rw [slewLimit_of_pos hraw, if_pos hprev]
  · rw [slewLimit_of_neg hraw, if_pos hprev]

/-! ## The travel limit -/

theorem errorLimit_of_within {e : Int} {p : Params} (h : e.natAbs ≤ p.eSlow) : errorLimit e p = 10000 := if_pos h

/-- P_L_MIN is not negative, so the descent stopping at 0 does not show (R107). -/
theorem errorLimit_of_beyond {e : Int} {p : Params} (h : p.eSlow < e.natAbs) : (errorLimit e p : Int) =
    max (p.lMin : Int) (10000 - (p.kTravel : Int) * (e.natAbs - p.eSlow)) := by
  have hdescent : ((p.kTravel * (e.natAbs - p.eSlow) : Nat) : Int) = (p.kTravel : Int) * (e.natAbs - p.eSlow) := by
    rw [Nat.cast_mul, Nat.cast_sub h.le]
  rw [errorLimit, if_neg (not_le.2 h), ← hdescent]
  omega

theorem cappedLimit_of_lt {l c : Nat} (h : c < l) : cappedLimit l (some c) = ⟨c, .segmentCap⟩ := if_pos h

/-- A cap that is not below the error limit does not show, nor does its reason (R108). -/
theorem cappedLimit_of_le {l : Nat} {cap : Option Nat} (h : ∀ c, cap = some c → l ≤ c) :
    cappedLimit l cap = ⟨l, if l < 10000 then .error else .none⟩ := by
  cases cap with
  | none => rfl
  | some c => exact if_neg (not_lt.2 (h c rfl))

end Sys2Proof.Machine

namespace Sys2Proof.Scope

open Machine

/-- Settles O27: the raw demand within and beyond the window, and the rows of the slew limit one by one. -/
theorem demandLawAndSlewLimit : Obligations.DemandLawAndSlewLimit := by
  refine ⟨fun e p => ⟨rawDemand_of_within, fun h => ⟨natAbs_rawDemand_of_beyond h, fun he => ?_, fun he => ?_⟩⟩,
    fun raw prev slew => ⟨?_, ?_, ?_, ?_, ?_, natAbs_slewLimit_le raw prev slew⟩⟩
  · rw [rawDemand_of_beyond h, if_pos he]
    exact Int.natCast_nonneg _
  · rw [rawDemand_of_beyond h, if_neg he.not_gt]
    exact neg_nonpos.2 (Int.natCast_nonneg _)
  · rintro rfl
    exact slewLimit_zero prev slew
  · rintro hraw rfl
    exact slewLimit_from_zero hraw slew
  · exact fun hsame hrise => slewLimit_of_rise hsame hrise slew
  · exact fun hsame hfall => slewLimit_of_fall hsame hfall slew
  · exact fun hturn => slewLimit_of_reversal hturn slew

/-- Settles O28: the error limit within and beyond P_E_SLOW, and the cap below it or not. -/
theorem travelLimitLaw : Obligations.TravelLimitLaw :=
  ⟨fun _ _ => ⟨errorLimit_of_within, errorLimit_of_beyond⟩, fun _ _ => cappedLimit_of_lt, fun _ _ => cappedLimit_of_le⟩

end Sys2Proof.Scope
end

section
/-! The demands' bound (R104 to R106): every command keeps each demand held, pending or remembered within P_UMAX. -/

namespace Sys2Proof.Machine

/-! ## What the bound reads -/

/-- All that the invariants of the channels and of the demands read. -/
def outputs (s : State) : Params × Control × DepthChannel × TravelChannel × ValveTest :=
  (s.params, s.ctl, s.depth, s.travel, s.test)

/-- All that `DemandBounded` reads. -/
@[simp] def demands (s : State) : Nat × Int × DepthValue × Option DepthValue :=
  (s.params.umax, s.ctl.memory, s.depth.held, s.depth.waiting)

theorem demandBounded_of_demands {s t : State} (h : DemandBounded s) (hd : demands t = demands s) :
    DemandBounded t := by
  obtain ⟨memory, held, waiting⟩ := h
  simp only [demands, Prod.mk.injEq] at hd
  obtain ⟨humax, hmemory, hheld, hwaiting⟩ := hd
  exact ⟨by rwa [humax, hmemory], by rwa [humax, hheld], by rwa [humax, hwaiting]⟩

theorem demandBounded_of_outputs {s t : State} (h : DemandBounded s) (ho : outputs t = outputs s) :
    DemandBounded t := by
  simp only [outputs, Prod.mk.injEq] at ho
  obtain ⟨hparams, hctl, hdepth, -⟩ := ho
  exact demandBounded_of_demands h (by simp only [demands, hparams, hctl, hdepth])

theorem demandBounded_besideQueues : BesideQueues DemandBounded := by
  rintro s t ⟨-, -, hparams, -, -, -, -, -, -, hctl, hdepth, -⟩ h
  exact demandBounded_of_demands h (by simp only [demands, hparams, hctl, hdepth])

theorem demandBounded_latchHere {s : State} (e : Event) (b : Option BeamCode) (h : DemandBounded s) :
    DemandBounded (latchHere e b s) := demandBounded_of_demands h (by simp)

theorem demandBounded_writeTravel {s : State} (v : TravelValue) (h : DemandBounded s) :
    DemandBounded (writeTravel v s) := demandBounded_of_demands h (by simp)

/-! ## The DEPTH channel -/

theorem demandBounded_setMemory {s : State} {u : Int} (h : DemandBounded s) (hu : u.natAbs ≤ s.params.umax) :
    DemandBounded (setMemory u s) := ⟨hu, h.held, h.waiting⟩

theorem demandBounded_setMemory_zero {s : State} (h : DemandBounded s) : DemandBounded (setMemory 0 s) :=
  demandBounded_setMemory h (Nat.zero_le _)

theorem demandBounded_holdDepth {s : State} {v : DepthValue} (h : DemandBounded s) (hv : demandOf v ≤ s.params.umax) :
    DemandBounded (holdDepth v s) := ⟨h.memory, hv, h.waiting⟩

theorem demandBounded_silence {s : State} (h : DemandBounded s) : DemandBounded (silence s) :=
  ⟨h.memory, Nat.zero_le _, fun _ hw => nomatch hw⟩

/-- The dwell gate only replaces a demand by NEUTRAL (R123). -/
theorem demandBounded_emitDepth {s : State} (h : DemandBounded s) : DemandBounded (emitDepth s) := by
  unfold emitDepth
  split
  · have forced : DemandBounded (setMemory 0 (holdDepth .neutral s)) :=
      demandBounded_setMemory_zero (demandBounded_holdDepth h (Nat.zero_le _))
    exact demandBounded_of_demands forced rfl
  · exact demandBounded_of_demands h (by simp)

theorem demandBounded_emitDepthNow {s : State} {v : DepthValue} (h : DemandBounded s)
    (hv : demandOf v ≤ s.params.umax) : DemandBounded (emitDepthNow v s) :=
  demandBounded_emitDepth (demandBounded_holdDepth h hv)

/-- A demand within P_UMAX may be written in either mode (R113, R114). -/
theorem demandBounded_writeDepth {s : State} {v : DepthValue} (h : DemandBounded s) (hv : demandOf v ≤ s.params.umax) :
    DemandBounded (writeDepth v s) := by
  unfold writeDepth
  split <;> [exact h; split]
  · exact demandBounded_emitDepthNow h hv
  · exact ⟨h.memory, h.held, fun w hw => Option.some.inj hw ▸ hv⟩

theorem demandBounded_handback {s : State} (h : DemandBounded s) : DemandBounded (handback s) :=
  demandBounded_emitDepthNow (demandBounded_silence h) (Nat.zero_le _)

theorem demandBounded_tripFrames {s : State} (h : DemandBounded s) : DemandBounded (tripFrames s) := by
  have quiet : DemandBounded { silence s with travel := { s.travel with waiting := none, fresh := false } } :=
    demandBounded_of_demands (demandBounded_silence h) rfl
  exact demandBounded_of_demands (demandBounded_emitDepthNow (v := .neutral) quiet (Nat.zero_le _)) rfl

/-- A pending demand that is taken was within P_UMAX already (R113). -/
theorem demandBounded_takeDepth {s : State} (h : DemandBounded s) : DemandBounded (takeDepth s) := by
  refine demandBounded_emitDepth ⟨h.memory, ?_, fun _ hw => nomatch hw⟩
  cases hw : s.depth.waiting with
  | none => simpa [hw] using h.held
  | some v => simpa [hw] using h.waiting v hw

/-! ## Output ticks -/

/-- The decay lowers a demand (R117). -/
theorem decayed_le (u : Nat) (p : Params) : decayed u p ≤ u :=
  Nat.div_le_of_le_mul (by rw [Nat.mul_comm 10000]; exact Nat.mul_le_mul_left u (Nat.sub_le _ _))

/-- A decayed demand is held and remembered (R105, R117). -/
theorem demandBounded_decayHeld {s : State} (h : DemandBounded s) : DemandBounded (decayHeld s) := by
  unfold decayHeld
  split <;> [skip; exact h; exact h]
  rename_i d u hheld
  have hu : decayed u s.params ≤ s.params.umax := by
    have hle := h.held
    rw [hheld] at hle
    exact (decayed_le u s.params).trans hle
  dsimp only
  split
  · have ended : DemandBounded (holdDepth .neutral s) := demandBounded_holdDepth h (Nat.zero_le _)
    exact demandBounded_setMemory_zero (demandBounded_of_demands ended (by simp))
  · refine demandBounded_setMemory (demandBounded_holdDepth h hu) ?_
    cases d <;> simpa using hu

theorem demandBounded_staleDepth {s : State} (h : DemandBounded s) : DemandBounded (staleDepth s) := by
  unfold staleDepth
  split
  · exact demandBounded_emitDepth (demandBounded_decayHeld (demandBounded_of_demands h (by simp)))
  · exact demandBounded_emitDepth h

theorem demandBounded_deliverTick {s : State} (h : DemandBounded s) : DemandBounded (deliverTick s) := by
  have atTick : DemandBounded (depthAtTick s) := by
    unfold depthAtTick
    split <;> [exact h; split] <;> [exact demandBounded_emitDepth h; split] <;> split
    · exact h
    · exact demandBounded_staleDepth h
    · exact demandBounded_takeDepth h
    · exact demandBounded_staleDepth h
  have ticked : DemandBounded (depthTick s) := demandBounded_of_demands atTick rfl
  exact demandBounded_of_demands (t := streamTick (travelTick (depthTick s))) ticked (by simp)

theorem demandBounded_outputTick {s : State} (h : DemandBounded s) : DemandBounded (outputTick s) := by
  unfold outputTick
  split <;> [exact demandBounded_deliverTick (demandBounded_of_demands h (by simp)); exact h]

theorem demandBounded_takeSync {s : State} (h : DemandBounded s) : DemandBounded (takeSync s) := by
  unfold takeSync
  split <;> [exact h; skip; skip] <;> exact demandBounded_deliverTick (demandBounded_of_demands h (by simp))

theorem demandBounded_syncTimeout {s : State} (h : DemandBounded s) : DemandBounded (syncTimeout s) := by
  unfold syncTimeout
  split <;> [skip; exact h]
  exact demandBounded_latchHere _ _ (demandBounded_deliverTick (demandBounded_of_demands h (by simp)))

/-! ## Transitions -/

theorem demandBounded_setState {s : State} (new : CtlState) (h : DemandBounded s) : DemandBounded (setState new s) :=
  demandBounded_of_demands h (by simp)

theorem demandBounded_enterIdle {s : State} (new : CtlState) (h : DemandBounded s) : DemandBounded (enterIdle new s) :=
  demandBounded_writeTravel _ (demandBounded_silence (demandBounded_setState new h))

theorem demandBounded_releaseControl {s : State} (new : CtlState) (h : DemandBounded s) :
    DemandBounded (releaseControl new s) := by
  unfold releaseControl
  split
  case h_5 | h_6 | h_7 => exact demandBounded_enterIdle new h
  all_goals exact demandBounded_enterIdle new (demandBounded_handback h)

theorem demandBounded_enterAuto {s : State} (h : DemandBounded s) : DemandBounded (enterAuto s) :=
  demandBounded_of_demands (demandBounded_setState .auto (demandBounded_setMemory_zero h)) rfl

/-- NEUTRAL is written at the entry to HOLD and to SUSPENDED (R76). -/
theorem demandBounded_neutralWritten {s : State} (new : CtlState) (h : DemandBounded s) :
    DemandBounded (writeDepth .neutral (setState new s)) :=
  demandBounded_writeDepth (demandBounded_setState new h) (Nat.zero_le _)

theorem demandBounded_reportFading {s : State} (c : BeamCode) (h : DemandBounded s) :
    DemandBounded (reportFading c s) := by
  have hd : DemandBounded { s with chain := { s.chain with dH := 0 } } := demandBounded_of_demands h rfl
  unfold reportFading enterHold
  split <;> [skip; exact h]
  exact demandBounded_latchHere _ _ (demandBounded_writeTravel _ (demandBounded_neutralWritten .hold hd))

theorem demandBounded_reportSuspend {s : State} (h : DemandBounded s) : DemandBounded (reportSuspend s) := by
  unfold reportSuspend enterSuspended
  split <;> [skip; exact h]
  exact demandBounded_latchHere _ _ (demandBounded_writeTravel _ (demandBounded_neutralWritten .suspended h))

theorem demandBounded_reportRecovered {s : State} (h : DemandBounded s) : DemandBounded (reportRecovered s) := by
  unfold reportRecovered
  split <;> [exact demandBounded_enterAuto h; exact h]

theorem demandBounded_referenceChanged {s : State} (h : DemandBounded s) : DemandBounded (referenceChanged s) :=
  demandBounded_setMemory_zero (demandBounded_of_demands h (by simp))

/-! ## The valve test -/

theorem demandBounded_closeTest {s : State} (o : TestOutcome) (t : TestRun) (i : Option Nat) (h : DemandBounded s) :
    DemandBounded (closeTest o t i s) := by
  have ended : DemandBounded (if o = .stop then s else emitDepthNow .neutral s) := by
    split <;> [exact h; exact demandBounded_emitDepthNow h (Nat.zero_le _)]
  unfold closeTest
  generalize (if o = .stop then s else emitDepthNow .neutral s) = u at ended ⊢
  exact demandBounded_of_demands ended (by simp)

theorem demandBounded_closeRunningTest {s : State} (o : TestOutcome) (h : DemandBounded s) :
    DemandBounded (closeRunningTest o s) := by
  unfold closeRunningTest
  split <;> [exact h; exact demandBounded_closeTest o _ _ h; exact demandBounded_closeTest o _ _ h]

theorem demandBounded_clearPrior {s : State} (h : DemandBounded s) : DemandBounded (clearPrior s) :=
  demandBounded_of_demands h (by simp)

theorem demandBounded_endTest {s : State} (o : TestOutcome) (h : DemandBounded s) : DemandBounded (endTest o s) := by
  have hc := demandBounded_closeRunningTest o h
  unfold endTest returnFromTest
  split <;> [split; exact h] <;> [exact demandBounded_clearPrior (demandBounded_enterIdle _ hc); exact hc]

theorem demandBounded_trip {s : State} (h : DemandBounded s) : DemandBounded (trip s) := by
  have hc := demandBounded_clearPrior (demandBounded_closeRunningTest .stop h)
  have ht : DemandBounded (discardManualValve (setState .tripped (clearPrior (closeRunningTest .stop s)))) :=
    demandBounded_of_demands hc (by simp)
  exact demandBounded_latchHere _ _ (demandBounded_tripFrames ht)

/-- A test value is no demand (R112). -/
theorem demandBounded_writeStep {s : State} (t : TestRun) (i : Nat) (h : DemandBounded s) :
    DemandBounded (writeStep t i s) :=
  demandBounded_writeDepth (demandBounded_of_demands h (by simp)) (Nat.zero_le _)

theorem demandBounded_firstStep {s : State} (h : DemandBounded s) : DemandBounded (firstStep s) := by
  unfold firstStep
  split <;> [split; exact h; exact h] <;> [split; exact h]
  · exact demandBounded_endTest .notFound h
  · exact demandBounded_writeStep _ _ h

theorem demandBounded_stepTimerExpiry {s : State} (h : DemandBounded s) : DemandBounded (stepTimerExpiry s) := by
  have judged : DemandBounded (judgeStep s) := by
    cases hp : s.test.phase with
    | stepping t i m m0 =>
      obtain ⟨moved, hj⟩ := judgeStep_of_stepping hp
      rw [hj]
      split <;> [exact demandBounded_endTest .found h; split] <;> [exact demandBounded_endTest .wrongDirection h; split]
      · exact demandBounded_writeStep _ _ h
      · exact demandBounded_endTest .notFound h
    | idle => simpa [judgeStep, hp] using h
    | waiting t => simpa [judgeStep, hp] using h
  unfold stepTimerExpiry
  split <;> [exact judged; exact h]

theorem demandBounded_noBeamTimeout {s : State} (h : DemandBounded s) : DemandBounded (noBeamTimeout s) := by
  unfold noBeamTimeout
  split <;> [exact demandBounded_endTest .noBeam h; exact h]

theorem demandBounded_checkMax {s : State} (h : DemandBounded s) : DemandBounded (checkMax s) := by
  unfold checkMax
  split <;> [split; exact h; exact h] <;> [exact demandBounded_endTest .notFound h; exact h]

theorem demandBounded_testStart {s : State} (body : List Byte) (h : DemandBounded s) :
    DemandBounded (testStart body s).state := by
  have started (d : Dir) (c : BeamCode) (b : Int) : DemandBounded (startTest d c b s) :=
    demandBounded_firstStep (demandBounded_of_demands h (by simp))
  unfold testStart
  split <;> [exact h; skip]
  split <;> [exact h; skip]
  split <;> [exact h; skip]
  split <;> [exact h; skip]
  split <;> [exact h; skip]
  split <;> [exact started _ _ _; exact h]

theorem demandBounded_testAbort {s : State} (h : DemandBounded s) : DemandBounded (testAbort s).state := by
  unfold testAbort
  split <;> [exact demandBounded_endTest .request h; exact h]

/-! ## The control computation -/

theorem demandOf_demandValue (u : Int) : demandOf (demandValue u) = u.natAbs := by
  rw [demandValue_eq]
  split <;> simp [demandOf, *]

/-- The slew limit keeps the demand within the raw one, which P_UMAX bounds (R104). -/
theorem demandBounded_finishComputation {s : State} {raw : Int} (lErr : Nat) (h : DemandBounded s)
    (hraw : raw.natAbs ≤ s.params.umax) : DemandBounded (finishComputation raw lErr s) := by
  have hu : (slewLimit raw s.ctl.memory s.params.slew).natAbs ≤ s.params.umax := (natAbs_slewLimit_le _ _ _).trans hraw
  have remembered := demandBounded_setMemory h hu
  exact demandBounded_writeTravel _ (demandBounded_writeDepth remembered ((demandOf_demandValue _).trans_le hu))

/-- A measured computation's raw demand is within P_UMAX, an off-column one's at it (R100, R103). -/
theorem demandBounded_referenceStrike {s : State} (c : BeamCode) (r : StrikeResult) (h : DemandBounded s) :
    DemandBounded (referenceStrike c r s) := by
  have measured : DemandBounded (measuredComputation s) := by
    unfold measuredComputation
    split <;> [skip; exact h]
    exact demandBounded_finishComputation _ (demandBounded_of_demands h (by simp))
      (by simpa using natAbs_rawDemand_le _ s.params)
  have beyond (high : Bool) : DemandBounded (offColumnComputation c high s) := by
    refine demandBounded_finishComputation _ (demandBounded_of_demands h (by simp)) ?_
    cases high <;> simp
  unfold referenceStrike
  split <;> [split; exact h]
  · exact measured
  · exact measured
  · exact beyond true
  · exact beyond false
  · exact h
  · exact h

/-! ## Strikes -/

theorem demandBounded_chooseFirst {s : State} (c : BeamCode) (h : DemandBounded s) :
    DemandBounded (chooseFirst c s) := by
  unfold chooseFirst
  split <;> [exact demandBounded_referenceChanged (demandBounded_of_demands h (by simp)); exact h]

theorem demandBounded_countGood {s : State} (c : BeamCode) (h : DemandBounded s) : DemandBounded (countGood c s) := by
  unfold countGood
  dsimp only
  split
  · exact demandBounded_chooseFirst c (demandBounded_of_demands h (by simp))
  · exact demandBounded_of_demands h rfl

theorem demandBounded_beamTransition {s : State} (c : BeamCode) (r : StrikeResult) (h : DemandBounded s) :
    DemandBounded (beamTransition c r s) := by
  obtain hr | ⟨-, e, -, hr | hr⟩ | ⟨-, hr⟩ | ⟨-, b, hr⟩ | ⟨-, hr⟩ := beamTransition_cases c r s <;> rw [hr]
  · exact h
  · exact demandBounded_of_demands h (by simp)
  · exact demandBounded_countGood c (demandBounded_of_demands h (by simp))
  · exact demandBounded_countGood c h
  · exact demandBounded_of_demands h (by simp)
  · exact demandBounded_reportRecovered (demandBounded_of_demands h (by simp))

theorem demandBounded_handTestStrike {s : State} (c : BeamCode) (r : StrikeResult) (h : DemandBounded s) :
    DemandBounded (handTestStrike c r s) := by
  obtain hr | hr | ⟨p, -, -, hr⟩ := handTestStrike_cases c r s <;> rw [hr]
  · exact h
  · exact demandBounded_endTest .offColumn h
  · exact demandBounded_of_demands h (by simp)

theorem outputs_handleKind (c : BeamCode) (kind : StrikeKind) (s : State) :
    outputs (handleKind c kind s).2 = outputs s := by
  unfold handleKind failWindow
  cases kind with
  | single p => dsimp only; split <;> [skip; split] <;> simp [outputs]
  | edgeHigh | edgeLow | multi => simp [outputs]

theorem demandBounded_handleStrike {s : State} (k : Strike) (h : DemandBounded s) :
    DemandBounded (handleStrike k s) := by
  have hq : DemandBounded (checkSequence k.code k.seq s) := demandBounded_of_demands h (by simp)
  have hb := demandBounded_beamTransition k.code (handleKind k.code k.kind (checkSequence k.code k.seq s)).1
    (demandBounded_of_outputs hq (outputs_handleKind k.code k.kind _))
  refine demandBounded_handTestStrike _ _ ?_
  unfold handReferenceStrike
  split <;> [exact demandBounded_referenceStrike _ _ hb; exact hb]

theorem demandBounded_takeStrike {s : State} (f : Arrival) (h : DemandBounded s) : DemandBounded (takeStrike f s) := by
  unfold takeStrike
  split
  · exact demandBounded_of_demands h rfl
  · exact demandBounded_handleStrike _ (demandBounded_of_demands h (by simp))

/-! ## Timeouts -/

theorem demandBounded_loseBeam {s : State} (c : BeamCode) (h : DemandBounded s) : DemandBounded (loseBeam c s) := by
  have hl : DemandBounded (latchHere .beamLost (some c) (setBeam c (lostEntry (beam s c)) s)) :=
    demandBounded_latchHere _ _ (demandBounded_of_demands h rfl)
  unfold loseBeam
  dsimp only
  split <;> [split; exact hl] <;> [exact demandBounded_endTest .noBeam hl; exact hl]

theorem demandBounded_strikeTimeout {s : State} (c : BeamCode) (h : DemandBounded s) :
    DemandBounded (strikeTimeout c s) := by
  unfold strikeTimeout
  split <;> [exact demandBounded_loseBeam c h; exact h]

theorem demandBounded_referenceTimeout {s : State} (h : DemandBounded s) : DemandBounded (referenceTimeout s) := by
  unfold referenceTimeout
  split <;> [split; exact h] <;> [exact demandBounded_reportFading _ (demandBounded_of_demands h (by simp)); exact h]

theorem demandBounded_fadingTimeout {s : State} (h : DemandBounded s) : DemandBounded (fadingTimeout s) := by
  have lost (c : BeamCode) : DemandBounded (loseReference c s) := by
    have hl := demandBounded_referenceChanged (demandBounded_loseBeam c h)
    unfold loseReference
    dsimp only
    split
    · exact demandBounded_reportRecovered (demandBounded_of_demands hl (by simp))
    · exact demandBounded_reportSuspend hl
  unfold fadingTimeout
  split <;> [split; exact h] <;> [exact lost _; exact h]

theorem demandBounded_expireAll {s : State} (h : DemandBounded s) : DemandBounded (expireAll s) := by
  have hb : DemandBounded (expireBeams s) := demandBounded_strikeTimeout .b3 (demandBounded_strikeTimeout .b2
    (demandBounded_strikeTimeout .b1 (demandBounded_strikeTimeout .b0 h)))
  rw [expireAll_eq]
  split <;> [exact demandBounded_referenceTimeout hb; exact demandBounded_fadingTimeout hb]

/-! ## Lines and edges -/

theorem demandBounded_odoEdge {s : State} (w : Bool) (h : DemandBounded s) : DemandBounded (odoEdge w s) := by
  have held (m : Nat) {t : State} (ht : DemandBounded t) : DemandBounded (addHoldDistance m t) := by
    have hd : DemandBounded { t with chain := { t.chain with dH := holdDistanceAfter m t } } :=
      demandBounded_of_demands ht rfl
    unfold addHoldDistance compareHoldDistance
    split <;> [split; exact ht] <;> [exact demandBounded_reportSuspend hd; exact hd]
  have counted : DemandBounded (countEdge w s) := by
    refine held _ ?_
    split <;> exact demandBounded_of_demands h (by simp)
  unfold odoEdge
  split <;> [exact demandBounded_endTest .travel counted; exact demandBounded_endTest .travel h]

theorem demandBounded_acceptLine {s : State} (l : Line) (h : DemandBounded s) : DemandBounded (acceptLine l s) := by
  have hl : DemandBounded (setLine l { lineOf s l with active := !(lineOf s l).active, since := none } s) :=
    demandBounded_of_demands h (by simp)
  unfold acceptLine
  cases l with
  | odo => dsimp only; split <;> [exact demandBounded_odoEdge _ hl; exact hl]
  | dir | dig => exact hl
  | stop => dsimp only; split <;> [exact hl; exact demandBounded_trip hl]

theorem demandBounded_filterExpiry {s : State} (l : Line) (h : DemandBounded s) : DemandBounded (filterExpiry l s) := by
  unfold filterExpiry
  split <;> [exact demandBounded_acceptLine l h; exact h]

theorem demandBounded_lineLevelChange {s : State} (l : Line) (high : Bool) (h : DemandBounded s) :
    DemandBounded (lineLevelChange l high s) := by
  have set {t : State} (f : LineFilter) (ht : DemandBounded t) : DemandBounded (setLine l f t) :=
    demandBounded_of_demands ht rfl
  have start {t : State} (ht : DemandBounded t) : DemandBounded (startCandidate l t) := by
    unfold startCandidate
    dsimp only
    split <;> [split; exact ht] <;> [exact demandBounded_acceptLine l (set _ ht); exact set _ ht]
  unfold lineLevelChange
  dsimp only
  split <;> [exact set _ h; exact start (set _ h)]

/-! ## Parameters -/

theorem demandOf_clampDepthValue_le (umax : Nat) (v : DepthValue) : demandOf (clampDepthValue umax v) ≤ umax := by
  cases v with
  | demand d u => exact min_le_right _ _
  | neutral | test => exact Nat.zero_le _

/-- A write of P_UMAX brings the demands within the new value, whatever they were (R106). -/
theorem demandBounded_clampDemands (s : State) : DemandBounded (clampDemands s) := by
  rw [clampDemands_eq]
  refine ⟨by dsimp only; omega, demandOf_clampDepthValue_le _ _, fun v hv => ?_⟩
  obtain ⟨w, -, rfl⟩ := Option.map_eq_some_iff.1 hv
  exact demandOf_clampDepthValue_le _ _

/-- P_TICK and P_TICK_SRC act on the tick generator alone (R121). -/
theorem outputs_tickEffects (s : State) : (∀ old, outputs (tickSourceEffect old s) = outputs s) ∧
    outputs (tickEffect s) = outputs s := by
  refine ⟨fun old => ?_, ?_⟩
  · unfold tickSourceEffect
    split <;> rfl
  · unfold tickEffect
    dsimp only
    split <;> rfl

theorem demandBounded_depthModeEffect {s : State} (old : UpdateMode) (h : DemandBounded s) :
    DemandBounded (depthModeEffect old s) := by
  unfold depthModeEffect
  split <;> [split; exact h]
  · exact ⟨h.memory, h.held, fun _ hw => nomatch hw⟩
  · exact demandBounded_takeDepth h

theorem demandBounded_travelModeEffect {s : State} (old : UpdateMode) (h : DemandBounded s) :
    DemandBounded (travelModeEffect old s) := by
  unfold travelModeEffect
  split <;> [exact demandBounded_of_demands h (by simp); exact h]

theorem demandBounded_paramEffect {s : State} (id : Nat) (old : Params) (h : DemandBounded s) :
    DemandBounded (paramEffect id old s) := by
  obtain ⟨hsource, htick⟩ := outputs_tickEffects s
  unfold paramEffect
  split
  · exact demandBounded_of_demands h (by simp)
  · exact demandBounded_expireAll h
  · exact demandBounded_of_demands h (by simp)
  · exact demandBounded_filterExpiry _ h
  · exact demandBounded_filterExpiry _ h
  · exact demandBounded_filterExpiry _ h
  · exact demandBounded_filterExpiry _ h
  · exact demandBounded_clampDemands s
  · exact demandBounded_of_outputs h htick
  · exact demandBounded_of_outputs h (hsource _)
  · exact demandBounded_syncTimeout h
  · exact demandBounded_depthModeEffect _ h
  · exact demandBounded_travelModeEffect _ h
  · exact demandBounded_of_demands h (by simp)
  · exact demandBounded_of_demands h (by simp)
  · exact demandBounded_checkMax h
  · exact demandBounded_noBeamTimeout h
  · exact h

/-- No parameter but P_UMAX is the maximum demand (R199). -/
theorem umax_storeParam {id : Nat} (hid : id ≠ 23) (v : Nat) (p : Params) : (storeParam id v p).umax = p.umax := by
  unfold storeParam
  split
  case h_23 => exact absurd rfl hid
  all_goals rfl

theorem demandBounded_paramWrite {s : State} (body : List Byte) (h : DemandBounded s) :
    DemandBounded (paramWrite body s).state := by
  obtain hs | ⟨id, v, hs⟩ := paramWrite_state body s <;> rw [hs] <;> [exact h; skip]
  by_cases hid : id = 23
  · subst hid
    exact demandBounded_clampDemands _
  · exact demandBounded_paramEffect id s.params
      (demandBounded_of_demands h (by simp [umax_storeParam hid]))

end Sys2Proof.Machine
end

section
/-! The demands' bound: the requests, the resets and the step. -/

namespace Sys2Proof.Machine

/-! ## Rules that leave the channels and their control alone -/

theorem outputs_paramRead (body : List Byte) (s : State) : outputs (paramRead body s).state = outputs s := by
  unfold paramRead
  dsimp only
  split <;> rfl

theorem outputs_loadBegin (body : List Byte) (s : State) : outputs (loadBegin body s).state = outputs s := by
  unfold loadBegin
  repeat' split
  all_goals rfl

theorem outputs_loadEntry (sn : Session) (body : List Byte) (s : State) :
    outputs (loadEntry sn body s).state = outputs s := by
  unfold loadEntry
  repeat' split
  all_goals rfl

theorem outputs_loadCommit (body : List Byte) (s : State) : outputs (loadCommit body s).state = outputs s := by
  have profile (n : Nat) : outputs (commitProfile n s) = outputs s := by
    unfold commitProfile
    dsimp only
    split <;> simp [outputs]
  unfold loadCommit
  split <;> [skip; rfl]
  unfold commitSession
  split <;> [rfl; skip]
  split <;> [rfl; skip]
  split <;> [rfl; skip]
  split
  · exact profile _
  all_goals split <;> rfl

theorem outputs_loadCancel (body : List Byte) (s : State) : outputs (loadCancel body s).state = outputs s := by
  unfold loadCancel cancelKind
  repeat' split
  all_goals rfl

theorem outputs_readEntry (body : List Byte) (s : State) : outputs (readEntry body s).state = outputs s := by
  unfold readEntry readProfile readTiltEntry readPoint
  dsimp only
  repeat' split
  all_goals rfl

theorem outputs_setDepthRequest (body : List Byte) (s : State) :
    outputs (setDepthRequest body s).state = outputs s := by
  unfold setDepthRequest setDepth
  repeat' split
  all_goals rfl

theorem outputs_adopt (body : List Byte) (s : State) : outputs (adopt body s).state = outputs s := by
  unfold adopt adoptBeam
  repeat' split
  all_goals rfl

theorem outputs_testApply (s : State) : outputs (testApply s).state = outputs s := by
  obtain hs | ⟨d, i, m, -, -, -, hs⟩ := testApply_state s <;> rw [hs]
  rfl

theorem outputs_fwdWrite (body : List Byte) (s : State) : outputs (fwdWrite body s).state = outputs s := by
  unfold fwdWrite writeFwd
  repeat' split
  all_goals rfl

theorem outputs_fwdRead (body : List Byte) (s : State) : outputs (fwdRead body s).state = outputs s := by
  unfold fwdRead
  dsimp only
  split <;> rfl

theorem outputs_maskWrite (body : List Byte) (s : State) : outputs (maskWrite body s).state = outputs s := by
  unfold maskWrite writeMask
  repeat' split
  all_goals rfl

theorem outputs_traceRead (s : State) : outputs (traceRead s).state = outputs s := by
  unfold traceRead
  split <;> rfl

theorem outputs_burst (s : State) (u : Trace) : outputs (burst { s with trace := u }) = outputs s := by
  simp [outputs]

theorem outputs_traceRewind (s : State) : outputs (traceRewind s).state = outputs s := by
  unfold traceRewind
  split <;> [rfl; exact outputs_burst s _]

theorem outputs_traceGate (body : List Byte) (s : State) : outputs (traceGate body s).state = outputs s := by
  unfold traceGate
  split <;> rfl

theorem outputs_noteTarget (s : State) : outputs (noteTarget s.chain.s s) = outputs s := by
  simp [outputs]

theorem outputs_takeTiltFrame (f : Arrival) (s : State) : outputs (takeTiltFrame f s) = outputs s := by
  unfold takeTiltFrame
  split <;> simp [outputs]

theorem outputs_passUnclassified (p : Port) (f : CanFrame) (s : State) :
    outputs (passUnclassified p f s) = outputs s := by
  unfold passUnclassified
  split <;> simp [outputs]

/-! ## Runs, modes and resets -/

theorem demandBounded_openRunRequest {s : State} (body : List Byte) (h : DemandBounded s) :
    DemandBounded (openRunRequest body s).state := by
  obtain hr | ⟨start, g, discard, -, -, -, hr⟩ := openRunRequest_state body s <;> rw [hr] <;> [exact h; skip]
  exact demandBounded_enterIdle .manual (demandBounded_of_demands (demandBounded_setMemory_zero h) rfl)

theorem demandBounded_closeRun {s : State} (h : DemandBounded s) : DemandBounded (closeRun s).state := by
  have ended : DemandBounded (endRun (finishTakeover s)) := demandBounded_of_demands h (by simp)
  unfold closeRun
  split <;> [exact demandBounded_releaseControl .standby ended; exact h]

/-- BENCH onto another beam changes the reference, and with it the demand memory (R30, R39). -/
theorem demandBounded_bench {s : State} (body : List Byte) (h : DemandBounded s) :
    DemandBounded (bench body s).state := by
  have noted : DemandBounded (noteTarget s.chain.s s) := demandBounded_of_demands h (by simp)
  obtain hb | ⟨-, c, d, hb⟩ := bench_state body s <;> rw [hb] <;> [exact h; skip]
  obtain hf | hf | ⟨v, hf | hf⟩ := finishBench_state c d s <;> rw [hf]
  · exact h
  · exact noted
  · exact demandBounded_of_demands noted rfl
  · have benched : DemandBounded (benchBeam c (noteTarget s.chain.s s)) :=
      demandBounded_referenceChanged (demandBounded_of_demands noted rfl)
    exact demandBounded_of_demands benched rfl

theorem demandBounded_takeModeAuto {s : State} (body : List Byte) (h : DemandBounded s) :
    DemandBounded (takeModeAuto body s).state := by
  unfold takeModeAuto setModeAuto
  split <;> [split; exact h] <;> [exact demandBounded_enterAuto h; exact h]

theorem demandBounded_resume {s : State} (h : DemandBounded s) : DemandBounded (resume s).state := by
  unfold resume
  split <;> [exact demandBounded_enterAuto h; exact h]

theorem demandBounded_takeModeManual {s : State} (body : List Byte) (h : DemandBounded s) :
    DemandBounded (takeModeManual body s).state := by
  unfold takeModeManual setModeManual
  split <;> [split; exact h] <;> [exact demandBounded_releaseControl .manual h; exact h]

theorem demandBounded_clearTrip {s : State} (h : DemandBounded s) : DemandBounded (clearTrip s).state := by
  unfold clearTrip
  split <;> [exact h; exact demandBounded_releaseControl _ h]

theorem demandBounded_handover {s : State} (body : List Byte) (h : DemandBounded s) :
    DemandBounded (handover body s).state := by
  have taken (c : BeamCode) : DemandBounded (handoverTo c s) :=
    demandBounded_reportRecovered (demandBounded_referenceChanged (demandBounded_of_demands h (by simp)))
  unfold handover
  split <;> [exact h; split] <;> [exact taken _; exact h]

theorem demandBounded_takeManual {s : State} (f : Arrival) (h : DemandBounded s) : DemandBounded (takeManual f s) := by
  have forwards (g : CanFrame) {t : State} (ht : DemandBounded t) : DemandBounded (forwardToD g t) :=
    demandBounded_of_demands ht (by simp)
  have overrides : DemandBounded (override s) :=
    demandBounded_latchHere _ _ (demandBounded_releaseControl .manual h)
  unfold takeManual
  split <;> [exact demandBounded_of_demands h (by simp); skip]
  unfold gateManual
  split
  case h_1 | h_2 => exact forwards _ h
  case h_6 => split <;> [exact forwards _ (demandBounded_endTest .override h); exact h]
  case h_7 => exact h
  all_goals split <;> [exact forwards _ overrides; exact h]

/-- After a reset nothing is held, pending or remembered (R96, R130). -/
theorem demandBounded_of_reset {t : State} (hc : t.ctl = resetControl) (hd : t.depth = resetDepth) :
    DemandBounded t := by
  refine ⟨?_, ?_, ?_⟩ <;> simp [hc, hd, resetControl, resetDepth, demandOf]

theorem demandBounded_masterReset (s : State) : DemandBounded (masterReset s) := by
  rw [masterReset_eq]
  exact demandBounded_of_reset rfl rfl

theorem demandBounded_clearRun {s : State} (h : DemandBounded s) : DemandBounded (clearRun s) := by
  have closed := demandBounded_clearPrior (demandBounded_closeRunningTest .request h)
  have ended : DemandBounded (endRun (finishTakeover (clearPrior (closeRunningTest .request s)))) :=
    demandBounded_of_demands closed (by simp)
  have cleared {t : State} (ht : DemandBounded t) : DemandBounded (clearBlocks t) :=
    demandBounded_of_demands ht rfl
  unfold clearRun clearControl
  dsimp only
  split
  · exact cleared (demandBounded_setMemory_zero ended)
  · exact cleared (demandBounded_releaseControl .standby (demandBounded_setMemory_zero ended))

theorem demandBounded_departU {s : State} (h : DemandBounded s) : DemandBounded (departU s) := by
  unfold departU afterDeparture
  split <;> [exact h; split] <;> [exact demandBounded_masterReset _; exact demandBounded_of_demands h (by simp)]

/-! ## The step -/

/-- A request keeps the bound where its rule does (R175). -/
theorem demandBounded_answerRequest {code : Byte} {n : Nat} {r : Request} {act : List Byte → State → Answer}
    {s : State} (h : DemandBounded s) (hact : ∀ body t, DemandBounded t → DemandBounded (act body t).state) :
    DemandBounded (answerRequest code n r act s) :=
  answerRequest_keeps demandBounded_besideQueues hact h

/-- A request whose rule leaves the channels and their control alone keeps the bound. -/
theorem demandBounded_quietRequest {code : Byte} {n : Nat} {r : Request} {act : List Byte → State → Answer} {s : State}
    (h : DemandBounded s) (hact : ∀ body t, outputs (act body t).state = outputs t) :
    DemandBounded (answerRequest code n r act s) :=
  demandBounded_answerRequest h fun body t ht => demandBounded_of_outputs ht (hact body t)

theorem demandBounded_takeLoadEntry {s : State} (r : Request) (h : DemandBounded s) :
    DemandBounded (takeLoadEntry r s) := by
  unfold takeLoadEntry
  split
  · exact refusal_keeps demandBounded_besideQueues codeLoadEntry r .sequence h
  · exact demandBounded_quietRequest h (outputs_loadEntry _)

theorem demandBounded_exec {s : State} (c : Instr) (h : DemandBounded s) : Yields DemandBounded (exec c s) := by
  have beside := demandBounded_besideQueues
  cases c with
  | powerOn straps =>
    show DemandBounded (powerOn straps s)
    rw [powerOn_eq]
    exact demandBounded_of_reset rfl rfl
  | strike f => exact demandBounded_takeStrike f h
  | tilt f => exact demandBounded_of_outputs h (outputs_takeTiltFrame f s)
  | sync f => exact demandBounded_takeSync (s := forwardTaken .d clsSync f s) (demandBounded_of_demands h (by simp))
  | manualValve f => exact demandBounded_takeManual f h
  | forwardedFrame p id format data => exact demandBounded_of_demands (t := forwardByTable p id _ s) h (by simp)
  | unclassifiedFrame p f => exact demandBounded_of_outputs h (outputs_passUnclassified p f s)
  | mgmtReqShortHeader prio src tag format byte => exact demandBounded_of_demands (t := dropMalformed s) h (by simp)
  | unknownRequest code r => exact refusal_keeps beside code r .unknown h
  | identify broadcast r => exact identify_keeps beside broadcast r h
  | snapshot r => exact demandBounded_quietRequest h fun _ => outputs_noteTarget
  | reset r => exact takeReset_keeps beside demandBounded_masterReset r h
  | clearRun r => exact demandBounded_answerRequest h fun _ t ht => demandBounded_clearRun ht
  | paramRead r => exact demandBounded_quietRequest h outputs_paramRead
  | paramWrite r => exact demandBounded_answerRequest h fun body t ht => demandBounded_paramWrite body ht
  | loadBegin r => exact demandBounded_quietRequest h outputs_loadBegin
  | loadEntry r => exact demandBounded_takeLoadEntry r h
  | loadCommit r => exact demandBounded_quietRequest h outputs_loadCommit
  | loadCancel r => exact demandBounded_quietRequest h outputs_loadCancel
  | readEntry r => exact demandBounded_quietRequest h outputs_readEntry
  | openRun r => exact demandBounded_answerRequest h fun body t ht => demandBounded_openRunRequest body ht
  | closeRun r => exact demandBounded_answerRequest h fun _ t ht => demandBounded_closeRun ht
  | bench r => exact demandBounded_answerRequest h fun body t ht => demandBounded_bench body ht
  | setDepth r => exact demandBounded_quietRequest h outputs_setDepthRequest
  | setModeAuto r => exact demandBounded_answerRequest h fun body t ht => demandBounded_takeModeAuto body ht
  | setModeManual r => exact demandBounded_answerRequest h fun body t ht => demandBounded_takeModeManual body ht
  | resume r => exact demandBounded_answerRequest h fun _ t ht => demandBounded_resume ht
  | clearTrip r => exact demandBounded_answerRequest h fun _ t ht => demandBounded_clearTrip ht
  | handover r => exact demandBounded_answerRequest h fun body t ht => demandBounded_handover body ht
  | adopt r => exact demandBounded_quietRequest h outputs_adopt
  | testStart r => exact demandBounded_answerRequest h fun body t ht => demandBounded_testStart body ht
  | testAbort r => exact demandBounded_answerRequest h fun _ t ht => demandBounded_testAbort ht
  | testResult r => exact demandBounded_quietRequest h fun _ _ => rfl
  | testApply r => exact demandBounded_quietRequest h fun _ => outputs_testApply
  | fwdWrite r => exact demandBounded_quietRequest h outputs_fwdWrite
  | fwdRead r => exact demandBounded_quietRequest h outputs_fwdRead
  | traceRead r => exact demandBounded_quietRequest h fun _ => outputs_traceRead
  | traceMark r => exact demandBounded_quietRequest h fun _ t => outputs_burst t _
  | traceUnmark r => exact demandBounded_quietRequest h fun _ t => outputs_burst t _
  | traceRewind r => exact demandBounded_quietRequest h fun _ => outputs_traceRewind
  | traceGate r => exact demandBounded_quietRequest h outputs_traceGate
  | eventRead r => exact demandBounded_quietRequest h fun _ _ => rfl
  | maskWrite r => exact demandBounded_quietRequest h outputs_maskWrite
  | countersRead r => exact demandBounded_quietRequest h fun _ _ => rfl
  | countersClear r => exact demandBounded_quietRequest h fun _ _ => rfl
  | portUFrameDeparture => exact demandBounded_departU h
  | arbiterTakesFrame => exact demandBounded_of_demands (t := { s with portD := arbiterTakes s.portD }) h (by simp)
  | lineLevelChange l high => exact demandBounded_lineLevelChange l high h
  | acceptedOdoEdge => exact demandBounded_filterExpiry .odo h
  | acceptedDirChange => exact demandBounded_filterExpiry .dir h
  | acceptedDigChange => exact demandBounded_filterExpiry .dig h
  | stopAcceptedActive =>
    show DemandBounded (if s.lines.stop.active then s else filterExpiry .stop s)
    split <;> [exact h; exact demandBounded_filterExpiry .stop h]
  | stopRelease =>
    show DemandBounded (if s.lines.stop.active then filterExpiry .stop s else s)
    split <;> [exact demandBounded_filterExpiry .stop h; exact h]
  | strikeTimeout c => exact demandBounded_strikeTimeout c h
  | referenceTimeout => exact demandBounded_referenceTimeout h
  | fadingTimeout => exact demandBounded_fadingTimeout h
  | tiltExpiry => exact demandBounded_of_demands (t := tiltExpiry s) h (by simp)
  | outputTick => exact demandBounded_outputTick h
  | syncTimeout => exact demandBounded_syncTimeout h
  | holdDistanceExpiry =>
    show DemandBounded (if holdDistanceDue s then filterExpiry .odo s else s)
    split <;> [exact demandBounded_filterExpiry .odo h; exact h]
  | dwellClearMoment => exact demandBounded_firstStep h
  | stepTimerExpiry => exact demandBounded_stepTimerExpiry h
  | noBeamTimeout => exact demandBounded_noBeamTimeout h

end Sys2Proof.Machine

namespace Sys2Proof.Scope

open Machine

/-- Settles O10: every command keeps the demands within P_UMAX, and neither the queue nor the clock touches them. -/
theorem stepKeepsDemandBounded : Obligations.StepKeepsDemandBounded := fun _ _ h hst =>
  step_keeps (fun c _ hs => demandBounded_exec c hs) (fun _ _ _ _ hs => demandBounded_of_outputs hs rfl) h hst

end Sys2Proof.Scope
end

section
/-! The output channels' consistency (R113, R118, R119): every command keeps fresh flags with pending values, the
silenced DEPTH channel and the stopped channels of TRIPPED. -/

namespace Sys2Proof.Machine

/-! ## What the invariant reads -/

/-- `t` agrees with `s` on all that `ChannelsSound` reads, except that other values may be held and pending in the DEPTH
channel where `s` has one, and NEUTRAL may be held. -/
@[simp] def SameChannels (s t : State) : Prop :=
  t.ctl.state = s.ctl.state ∧ t.ctl.prior = s.ctl.prior ∧ (t.test.phase = .idle ↔ s.test.phase = .idle) ∧
  t.depth.waiting.isSome = s.depth.waiting.isSome ∧ t.depth.fresh = s.depth.fresh ∧
  (s.depth.held = .neutral → t.depth.held = .neutral) ∧
  t.travel.waiting = s.travel.waiting ∧ t.travel.fresh = s.travel.fresh ∧ t.travel.held = s.travel.held

theorem testRunning_eq_true_iff (s : State) : testRunning s = true ↔ s.test.phase ≠ .idle := by
  unfold testRunning testRun
  split <;> simp_all

theorem testRunning_congr_phase {s t : State} (h : t.test.phase = .idle ↔ s.test.phase = .idle) :
    testRunning t = testRunning s :=
  Bool.eq_iff_iff.2 (by rw [testRunning_eq_true_iff, testRunning_eq_true_iff, ne_eq, ne_eq, h])

theorem testSound_of_eq {s t : State} (h : TestSound s) (hstate : t.ctl.state = s.ctl.state)
    (hprior : t.ctl.prior = s.ctl.prior) (hrun : testRunning t = testRunning s) : TestSound t :=
  ⟨by rw [hrun, hstate]; exact h.running, by rw [hprior, hstate]; exact h.prior,
    by rw [hprior, hstate]; exact h.noPrior⟩

/-- Out of TEST no test runs and no prior state is recorded. -/
theorem testSound_of_idle {t : State} (hrun : testRunning t = false) (hprior : t.ctl.prior = none)
    (hstate : t.ctl.state ≠ .test) : TestSound t :=
  ⟨by simp [hrun, hstate], by simp [hstate], fun _ => hprior⟩

/-- A transition between states out of TEST. -/
theorem testSound_of_left {s t : State} (h : TestSound s) (hs : s.ctl.state ≠ .test) (ht : t.ctl.state ≠ .test)
    (htest : t.test = s.test) (hprior : t.ctl.prior = s.ctl.prior) : TestSound t :=
  testSound_of_idle ((testRunning_congr htest).trans (not_running_of_testSound h hs)) (hprior.trans (h.noPrior hs)) ht

theorem channelsSound_of_same {s t : State} (h : ChannelsSound s) (k : SameChannels s t) : ChannelsSound t := by
  obtain ⟨hstate, hprior, hphase, hwaiting, hfresh, hheld, htravel⟩ := k
  obtain ⟨htwaiting, htfresh, htheld⟩ := htravel
  refine ⟨testSound_of_eq h.test hstate hprior (testRunning_congr_phase hphase), ?_, ?_, fun hs => ?_, ?_⟩
  · rw [hwaiting, hfresh]
    exact h.depth
  · rw [htwaiting, htfresh]
    exact h.travel
  · obtain ⟨hnone, hneutral⟩ := h.silent (hstate ▸ hs)
    exact ⟨by simpa [hnone] using hwaiting, hheld hneutral⟩
  · rw [hstate, htwaiting, htheld]
    exact h.stopped

theorem channelsSound_of_outputs {s t : State} (h : ChannelsSound s) (ho : outputs t = outputs s) :
    ChannelsSound t := by
  simp only [outputs, Prod.mk.injEq] at ho
  obtain ⟨-, hctl, hdepth, htravel, htest⟩ := ho
  exact channelsSound_of_same h (by simp [hctl, hdepth, htravel, htest])

theorem channelsSound_besideQueues : BesideQueues ChannelsSound := by
  rintro s t ⟨-, -, hparams, -, -, -, -, -, -, hctl, hdepth, htravel, -, htest, -⟩ h
  exact channelsSound_of_outputs h (by simp only [outputs, hparams, hctl, hdepth, htravel, htest])

/-! ## The two channels -/

/-- The DEPTH channel has nothing pending and holds NEUTRAL (R118). -/
def Quiet (s : State) : Prop := s.depth.waiting = none ∧ s.depth.fresh = false ∧ s.depth.held = .neutral

/-- The TRAVEL channel's fresh flag is set exactly with a pending value (R113). -/
def TravelMarked (s : State) : Prop := s.travel.fresh = true ↔ s.travel.waiting.isSome = true

theorem travelMarked_writeTravel {s : State} (v : TravelValue) (h : TravelMarked s) :
    TravelMarked (writeTravel v s) := by
  unfold writeTravel
  split
  · exact h
  · simp [TravelMarked]

theorem travelMarked_of_eq {s t : State} (h : TravelMarked s) (ht : t.travel = s.travel) : TravelMarked t := by
  rwa [TravelMarked, ht]

theorem silenced_iff (s : State) : silenced s = true ↔ s.ctl.state = .standby ∨ s.ctl.state = .manual := by
  simp [silenced]

theorem depthImmediate_iff (s : State) :
    depthImmediate s = true ↔ s.ctl.state = .test ∨ s.params.modeDepth = .immediate := by
  simp [depthImmediate]

/-- Out of TRIPPED a quiet DEPTH channel is all that a silenced state asks for. -/
theorem channelsSound_of_quiet {t : State} (test : TestSound t) (hquiet : Quiet t) (htravel : TravelMarked t)
    (hs : t.ctl.state ≠ .tripped) : ChannelsSound t := by
  obtain ⟨hwaiting, hfresh, hheld⟩ := hquiet
  exact ⟨test, by simp [hwaiting, hfresh], htravel, fun _ => ⟨hwaiting, hheld⟩, fun ht => absurd ht hs⟩

/-- AUTO, HOLD, SUSPENDED and TEST ask for the flags alone. -/
theorem channelsSound_of_active {t : State} (test : TestSound t)
    (hdepth : t.depth.fresh = true ↔ t.depth.waiting.isSome = true) (htravel : TravelMarked t)
    (hs : silenced t = false ∧ t.ctl.state ≠ .tripped) : ChannelsSound t := by
  obtain ⟨hsilenced, htripped⟩ := hs
  have hworking : ¬ (t.ctl.state = .standby ∨ t.ctl.state = .manual) := by rw [← silenced_iff]; simp [hsilenced]
  exact ⟨test, hdepth, htravel, fun hs => absurd hs (by tauto), fun ht => absurd ht htripped⟩

/-- In TRIPPED neither channel has a pending value (R119). -/
theorem not_fresh_of_tripped {s : State} (h : ChannelsSound s) (hs : s.ctl.state = .tripped) :
    s.depth.fresh = false ∧ s.travel.fresh = false := by
  obtain ⟨hdepth, -⟩ := h.silent (by simp [hs])
  obtain ⟨htravel, -⟩ := h.stopped hs
  exact ⟨by simpa [hdepth] using h.depth, by simpa [htravel] using h.travel⟩

/-- The dwell gate only replaces the held value by NEUTRAL (R123). -/
theorem emitDepth_held (s : State) :
    (emitDepth s).depth.held = if gateForces s.depth.held s then .neutral else s.depth.held := by
  unfold emitDepth
  split <;> simp

theorem sameChannels_emitDepth (s : State) : SameChannels s (emitDepth s) := by
  simp +contextual [emitDepth_held]

theorem sameChannels_emitTravel (s : State) : SameChannels s (emitTravel s) := by simp

theorem channelsSound_emitDepth {s : State} (h : ChannelsSound s) : ChannelsSound (emitDepth s) :=
  channelsSound_of_same h (sameChannels_emitDepth s)

/-- A value written to the TRAVEL channel out of TRIPPED (R113, R119). -/
theorem channelsSound_writeTravel {s : State} (v : TravelValue) (h : ChannelsSound s) (hs : s.ctl.state ≠ .tripped) :
    ChannelsSound (writeTravel v s) where
  test := testSound_of_eq h.test (by simp) (by simp) (testRunning_congr (by simp))
  depth := by simpa using h.depth
  travel := travelMarked_writeTravel v h.travel
  silent := by simpa using h.silent
  stopped := by simp [hs]

/-- A value written to the DEPTH channel out of TRIPPED: where the channel is silenced nothing happens (R113, R118). -/
theorem channelsSound_writeDepth {s : State} (v : DepthValue) (h : ChannelsSound s) (hs : s.ctl.state ≠ .tripped) :
    ChannelsSound (writeDepth v s) := by
  unfold writeDepth
  split <;> [exact h; skip]
  rename_i hsilenced
  have active : silenced s = false ∧ s.ctl.state ≠ .tripped := ⟨by simpa using hsilenced, hs⟩
  have test {t : State} (hctl : t.ctl = s.ctl) (htest : t.test = s.test) : TestSound t :=
    testSound_of_eq h.test (by rw [hctl]) (by rw [hctl]) (testRunning_congr htest)
  split
  · exact channelsSound_emitDepth (channelsSound_of_active (test rfl rfl) h.depth h.travel active)
  · exact channelsSound_of_active (test rfl rfl) (by simp) h.travel active

/-- A pending value is taken out of the silenced states and TRIPPED (R113). -/
theorem channelsSound_takeDepth {s : State} (h : ChannelsSound s) (hs : silenced s = false ∧ s.ctl.state ≠ .tripped) :
    ChannelsSound (takeDepth s) :=
  channelsSound_emitDepth (channelsSound_of_active (testSound_of_eq h.test rfl rfl rfl) (by simp) h.travel hs)

theorem channelsSound_takeTravel {s : State} (h : ChannelsSound s) (hs : s.ctl.state ≠ .tripped) :
    ChannelsSound (takeTravel s) where
  test := testSound_of_eq h.test rfl rfl rfl
  depth := h.depth
  travel := by simp [takeTravel]
  silent := h.silent
  stopped ht := absurd ht hs

/-! ## Output ticks -/

theorem sameChannels_decayHeld (s : State) : SameChannels s (decayHeld s) := by
  have hneutral (h : s.depth.held = .neutral) : (decayHeld s).depth.held = .neutral := by simp [decayHeld, h]
  simpa using hneutral

theorem channelsSound_staleDepth {s : State} (h : ChannelsSound s) : ChannelsSound (staleDepth s) := by
  refine channelsSound_emitDepth ?_
  split
  · exact channelsSound_of_same (channelsSound_of_same h (by simp)) (sameChannels_decayHeld _)
  · exact h

theorem channelsSound_depthTick {s : State} (h : ChannelsSound s) : ChannelsSound (depthTick s) := by
  have atTick : ChannelsSound (depthAtTick s) := by
    unfold depthAtTick
    split <;> [exact h; split] <;> [exact channelsSound_emitDepth h; split] <;> split
    · exact h
    · exact channelsSound_staleDepth h
    · exact channelsSound_takeDepth h ⟨by simp_all, by assumption⟩
    · exact channelsSound_staleDepth h
  exact channelsSound_of_same atTick (by simp [depthTick])

theorem channelsSound_staleTravel {s : State} (h : ChannelsSound s) : ChannelsSound (staleTravel s) := by
  refine channelsSound_of_same ?_ (sameChannels_emitTravel _)
  split <;> [exact channelsSound_of_same h (by simp); exact h]

theorem channelsSound_travelTick {s : State} (h : ChannelsSound s) : ChannelsSound (travelTick s) := by
  have atTick : ChannelsSound (travelAtTick s) := by
    unfold travelAtTick
    split <;> [exact channelsSound_of_same h (sameChannels_emitTravel s); split] <;> split
    · exact h
    · exact channelsSound_staleTravel h
    · exact channelsSound_takeTravel h (by assumption)
    · exact channelsSound_staleTravel h
  exact channelsSound_of_same atTick (by simp [travelTick])

theorem channelsSound_deliverTick {s : State} (h : ChannelsSound s) : ChannelsSound (deliverTick s) :=
  channelsSound_of_same (t := streamTick (travelTick (depthTick s)))
    (channelsSound_travelTick (channelsSound_depthTick h)) (by simp)

theorem channelsSound_outputTick {s : State} (h : ChannelsSound s) : ChannelsSound (outputTick s) := by
  unfold outputTick
  split <;> [exact channelsSound_deliverTick (channelsSound_of_same h (by simp)); exact h]

theorem channelsSound_takeSync {s : State} (h : ChannelsSound s) : ChannelsSound (takeSync s) := by
  unfold takeSync
  split <;> [exact h; skip; skip] <;> exact channelsSound_deliverTick (channelsSound_of_same h (by simp))

theorem channelsSound_latchHere {s : State} (e : Event) (b : Option BeamCode) (h : ChannelsSound s) :
    ChannelsSound (latchHere e b s) := channelsSound_of_same h (by simp)

theorem channelsSound_syncTimeout {s : State} (h : ChannelsSound s) : ChannelsSound (syncTimeout s) := by
  unfold syncTimeout
  split <;> [skip; exact h]
  exact channelsSound_latchHere _ _ (channelsSound_deliverTick (channelsSound_of_same h (by simp)))

/-! ## Transitions -/

/-- STANDBY and MANUAL are entered with the DEPTH channel silenced (R118). -/
theorem quiet_enterIdle (new : CtlState) (s : State) : Quiet (enterIdle new s) := by
  simp [Quiet, enterIdle]

theorem travelMarked_enterIdle {s : State} (new : CtlState) (h : TravelMarked s) : TravelMarked (enterIdle new s) :=
  travelMarked_writeTravel _ h

theorem quiet_releaseControl (new : CtlState) (s : State) : Quiet (releaseControl new s) := by
  unfold releaseControl
  split <;> exact quiet_enterIdle new _

theorem travelMarked_releaseControl {s : State} (new : CtlState) (h : TravelMarked s) :
    TravelMarked (releaseControl new s) := by
  unfold releaseControl
  split
  case h_5 | h_6 | h_7 => exact travelMarked_enterIdle new h
  all_goals exact travelMarked_enterIdle new (travelMarked_of_eq h (by simp))

/-- STANDBY or MANUAL entered with no test left running (R76, R90). -/
theorem channelsSound_releaseControl {s : State} {new : CtlState} (hrun : testRunning s = false)
    (hprior : s.ctl.prior = none) (htravel : TravelMarked s) (hnew : new = .standby ∨ new = .manual) :
    ChannelsSound (releaseControl new s) := by
  have hstate : new ≠ .test ∧ new ≠ .tripped := by obtain rfl | rfl := hnew <;> simp
  obtain ⟨htest, htripped⟩ := hstate
  exact channelsSound_of_quiet
    (testSound_of_idle ((testRunning_congr (by simp)).trans hrun) (by simpa using hprior) (by simpa using htest))
    (quiet_releaseControl new s) (travelMarked_releaseControl new htravel) (by simpa using htripped)

theorem channelsSound_released {s : State} {new : CtlState} (h : ChannelsSound s) (hs : s.ctl.state ≠ .test)
    (hnew : new = .standby ∨ new = .manual) : ChannelsSound (releaseControl new s) :=
  channelsSound_releaseControl (not_running_of_testSound h.test hs) (h.test.noPrior hs) h.travel hnew

/-- AUTO, HOLD and SUSPENDED entered out of TEST (R76). -/
theorem channelsSound_setState {s : State} {new : CtlState} (h : ChannelsSound s) (hs : s.ctl.state ≠ .test)
    (hnew : new = .auto ∨ new = .hold ∨ new = .suspended) : ChannelsSound (setState new s) := by
  have htest : TestSound (setState new s) :=
    testSound_of_left h.test hs (by obtain rfl | rfl | rfl := hnew <;> simp) rfl rfl
  exact channelsSound_of_active htest h.depth h.travel (by obtain rfl | rfl | rfl := hnew <;> simp [silenced])

theorem channelsSound_enterAuto {s : State} (h : ChannelsSound s) (hs : s.ctl.state ≠ .test) :
    ChannelsSound (enterAuto s) :=
  have remembered : ChannelsSound (setMemory 0 s) := channelsSound_of_same h (by simp)
  channelsSound_of_same (s := setState .auto (setMemory 0 s)) (channelsSound_setState remembered hs (by simp)) (by simp)

/-- NEUTRAL and a TRAVEL value are written at the entry to HOLD and to SUSPENDED (R76). -/
theorem channelsSound_entryWrites {s : State} {new : CtlState} (v : TravelValue) (h : ChannelsSound s)
    (hs : s.ctl.state ≠ .test) (hnew : new = .hold ∨ new = .suspended) :
    ChannelsSound (writeTravel v (writeDepth .neutral (setState new s))) := by
  have hstate : new ≠ .tripped := by obtain rfl | rfl := hnew <;> simp
  have entered : ChannelsSound (setState new s) := channelsSound_setState h hs (Or.inr hnew)
  exact channelsSound_writeTravel v (channelsSound_writeDepth .neutral entered (by simpa using hstate))
    (by simpa using hstate)

theorem channelsSound_reportFading {s : State} (c : BeamCode) (h : ChannelsSound s) :
    ChannelsSound (reportFading c s) := by
  unfold reportFading enterHold
  split <;> [skip; exact h]
  rename_i ha
  have hd : ChannelsSound { s with chain := { s.chain with dH := 0 } } := channelsSound_of_same h (by simp)
  exact channelsSound_latchHere _ _ (channelsSound_entryWrites _ hd (by simp [ha]) (by simp))

theorem channelsSound_reportSuspend {s : State} (h : ChannelsSound s) : ChannelsSound (reportSuspend s) := by
  unfold reportSuspend enterSuspended
  split <;> [skip; exact h]
  rename_i hh
  exact channelsSound_latchHere _ _ (channelsSound_entryWrites _ h (by simp [hh]) (by simp))

theorem channelsSound_reportRecovered {s : State} (h : ChannelsSound s) : ChannelsSound (reportRecovered s) := by
  unfold reportRecovered
  split <;> [skip; exact h]
  rename_i hh
  exact channelsSound_enterAuto h (by simp [hh])

theorem channelsSound_referenceChanged {s : State} (h : ChannelsSound s) : ChannelsSound (referenceChanged s) :=
  channelsSound_of_same h (by simp)

/-! ## The valve test -/

/-- The end of a test returns to a silenced DEPTH channel (R90, R118, R138). -/
theorem channelsSound_endTest {s : State} (o : TestOutcome) (h : ChannelsSound s) : ChannelsSound (endTest o s) := by
  by_cases ht : s.ctl.state = .test
  · obtain ⟨p, hp, he⟩ := endTest_of_test o h.test ht
    have hstate : p ≠ .test ∧ p ≠ .tripped := by obtain rfl | rfl := hp <;> simp
    obtain ⟨htest, htripped⟩ := hstate
    rw [he]
    refine channelsSound_of_quiet (testSound_of_idle ?_ rfl (by simpa using htest)) (quiet_enterIdle p _)
      (travelMarked_enterIdle p (travelMarked_of_eq (s := s) h.travel (by simp))) (by simpa using htripped)
    rw [← testRunning_closeRunningTest o s]
    exact testRunning_congr (by simp)
  · rw [endTest_of_not_running o (not_running_of_testSound h.test ht)]
    exact h

/-- The trip leaves both channels stopped (R119). -/
theorem channelsSound_trip (s : State) : ChannelsSound (trip s) := by
  have hrun : testRunning (trip s) = false := by
    rw [← testRunning_closeRunningTest .stop s]
    exact testRunning_congr (by simp [trip])
  rw [trip_eq] at hrun ⊢
  refine ⟨testSound_of_idle hrun ?_ ?_, ?_, ?_, ?_, ?_⟩ <;>
    simp [tripEntered, travelSent, neutralSent, manualDiscarded]

/-- A step current is written in TEST (R134, R135). -/
theorem channelsSound_writeStep {s : State} (t : TestRun) (i : Nat) (h : ChannelsSound s)
    (hrun : testRunning s = true) : ChannelsSound (writeStep t i s) := by
  have stepping : ChannelsSound { s with test := { s.test with
      phase := .stepping t i (later s.now.ms s.params.vtPeriod) s.now.ms } } :=
    channelsSound_of_same h (by simpa using (testRunning_eq_true_iff s).1 hrun)
  exact channelsSound_writeDepth _ stepping (by simp [h.test.running.1 hrun])

theorem channelsSound_firstStep {s : State} (h : ChannelsSound s) : ChannelsSound (firstStep s) := by
  unfold firstStep
  split <;> [skip; exact h; exact h]
  rename_i t hp
  split <;> [split; exact h]
  · exact channelsSound_endTest .notFound h
  · exact channelsSound_writeStep _ _ h (by simp [testRunning, testRun, hp])

theorem channelsSound_stepTimerExpiry {s : State} (h : ChannelsSound s) : ChannelsSound (stepTimerExpiry s) := by
  have judged : ChannelsSound (judgeStep s) := by
    cases hp : s.test.phase with
    | stepping t i m m0 =>
      obtain ⟨moved, hj⟩ := judgeStep_of_stepping hp
      rw [hj]
      split <;> [exact channelsSound_endTest .found h; split] <;> [exact channelsSound_endTest .wrongDirection h; split]
      · exact channelsSound_writeStep t _ h (by simp [testRunning, testRun, hp])
      · exact channelsSound_endTest .notFound h
    | idle => simpa [judgeStep, hp] using h
    | waiting t => simpa [judgeStep, hp] using h
  unfold stepTimerExpiry
  split <;> [exact judged; exact h]

theorem channelsSound_noBeamTimeout {s : State} (h : ChannelsSound s) : ChannelsSound (noBeamTimeout s) := by
  unfold noBeamTimeout
  split <;> [exact channelsSound_endTest .noBeam h; exact h]

theorem channelsSound_checkMax {s : State} (h : ChannelsSound s) : ChannelsSound (checkMax s) := by
  unfold checkMax
  split <;> [split; exact h; exact h] <;> [exact channelsSound_endTest .notFound h; exact h]

/-- TEST is entered from STANDBY or MANUAL with the state recorded and TRAVEL 0 written (R90). -/
theorem channelsSound_startTest {s : State} (d : Dir) (c : BeamCode) (b : Int) (h : ChannelsSound s)
    (hs : s.ctl.state = .standby ∨ s.ctl.state = .manual) : ChannelsSound (startTest d c b s) := by
  refine channelsSound_firstStep (channelsSound_of_active ⟨?_, ?_, ?_⟩ ?_ ?_ ?_)
  · simp [enterTest, testRunning, testRun]
  · simpa [enterTest] using hs
  · simp [enterTest]
  · simpa using h.depth
  · exact travelMarked_writeTravel _ (travelMarked_of_eq (s := s) h.travel rfl)
  · simp [enterTest, silenced]

theorem channelsSound_testStart {s : State} (body : List Byte) (h : ChannelsSound s) :
    ChannelsSound (testStart body s).state := by
  unfold testStart
  split <;> [exact h; skip]
  split <;> [exact h; skip]
  split <;> [exact h; skip]
  split <;> [exact h; skip]
  split <;> [exact h; skip]
  split <;> [exact channelsSound_startTest _ _ _ h (by tauto); exact h]

theorem channelsSound_testAbort {s : State} (h : ChannelsSound s) : ChannelsSound (testAbort s).state := by
  unfold testAbort
  split <;> [exact channelsSound_endTest .request h; exact h]

end Sys2Proof.Machine
end

section
/-! The output channels' consistency: the control computation, strikes, timeouts, lines and parameters. -/

namespace Sys2Proof.Machine

/-! ## The control computation -/

/-- A computation ends in a write to each channel (R109). -/
theorem channelsSound_finishComputation {s : State} (raw : Int) (lErr : Nat) (h : ChannelsSound s)
    (hs : s.ctl.state ≠ .tripped) : ChannelsSound (finishComputation raw lErr s) := by
  have remembered : ChannelsSound (setMemory (slewLimit raw s.ctl.memory s.params.slew) s) :=
    channelsSound_of_same h (by simp)
  exact channelsSound_writeTravel _ (channelsSound_writeDepth _ remembered (by simpa using hs)) (by simpa using hs)

theorem channelsSound_referenceStrike {s : State} (c : BeamCode) (r : StrikeResult) (h : ChannelsSound s) :
    ChannelsSound (referenceStrike c r s) := by
  unfold referenceStrike
  split <;> [skip; exact h]
  rename_i ha
  have hs : s.ctl.state ≠ .tripped := by simp [ha]
  have measured : ChannelsSound (measuredComputation s) := by
    unfold measuredComputation
    split <;> [skip; exact h]
    exact channelsSound_finishComputation _ _ (channelsSound_of_same h (by simp)) (by simpa using hs)
  have beyond (high : Bool) : ChannelsSound (offColumnComputation c high s) :=
    channelsSound_finishComputation _ _ (channelsSound_of_same h (by simp)) (by simpa using hs)
  split
  · exact measured
  · exact measured
  · exact beyond true
  · exact beyond false
  · exact h
  · exact h

/-! ## Strikes -/

theorem channelsSound_beamTransition {s : State} (c : BeamCode) (r : StrikeResult) (h : ChannelsSound s) :
    ChannelsSound (beamTransition c r s) := by
  obtain hr | ⟨-, e, -, hr | hr⟩ | ⟨-, hr⟩ | ⟨-, b, hr⟩ | ⟨-, hr⟩ := beamTransition_cases c r s <;> rw [hr]
  · exact h
  · exact channelsSound_of_same h (by simp)
  · exact channelsSound_of_same h (by simp)
  · exact channelsSound_of_same h (by simp)
  · exact channelsSound_of_same h (by simp)
  · exact channelsSound_reportRecovered (channelsSound_of_same h (by simp))

theorem channelsSound_handTestStrike {s : State} (c : BeamCode) (r : StrikeResult) (h : ChannelsSound s) :
    ChannelsSound (handTestStrike c r s) := by
  obtain hr | hr | ⟨p, hrun, hp, hr⟩ := handTestStrike_cases c r s <;> rw [hr]
  · exact h
  · exact channelsSound_endTest .offColumn h
  · exact channelsSound_of_same h (by simp [hp, (testRunning_eq_true_iff s).1 hrun])

theorem channelsSound_handleStrike {s : State} (k : Strike) (h : ChannelsSound s) :
    ChannelsSound (handleStrike k s) := by
  have hq : ChannelsSound (checkSequence k.code k.seq s) := channelsSound_of_same h (by simp)
  have hb := channelsSound_beamTransition k.code (handleKind k.code k.kind (checkSequence k.code k.seq s)).1
    (channelsSound_of_outputs hq (outputs_handleKind k.code k.kind _))
  refine channelsSound_handTestStrike _ _ ?_
  unfold handReferenceStrike
  split <;> [exact channelsSound_referenceStrike _ _ hb; exact hb]

theorem channelsSound_takeStrike {s : State} (f : Arrival) (h : ChannelsSound s) : ChannelsSound (takeStrike f s) := by
  unfold takeStrike
  split
  · exact channelsSound_of_same h (by simp)
  · exact channelsSound_handleStrike _ (channelsSound_of_same h (by simp))

/-! ## Timeouts -/

theorem channelsSound_loseBeam {s : State} (c : BeamCode) (h : ChannelsSound s) : ChannelsSound (loseBeam c s) := by
  have hl : ChannelsSound (latchHere .beamLost (some c) (setBeam c (lostEntry (beam s c)) s)) :=
    channelsSound_of_same h (by simp)
  unfold loseBeam
  dsimp only
  split <;> [split; exact hl] <;> [exact channelsSound_endTest .noBeam hl; exact hl]

theorem channelsSound_strikeTimeout {s : State} (c : BeamCode) (h : ChannelsSound s) :
    ChannelsSound (strikeTimeout c s) := by
  unfold strikeTimeout
  split <;> [exact channelsSound_loseBeam c h; exact h]

theorem channelsSound_referenceTimeout {s : State} (h : ChannelsSound s) : ChannelsSound (referenceTimeout s) := by
  unfold referenceTimeout
  split <;> [split; exact h] <;> [exact channelsSound_reportFading _ (channelsSound_of_same h (by simp)); exact h]

theorem channelsSound_fadingTimeout {s : State} (h : ChannelsSound s) : ChannelsSound (fadingTimeout s) := by
  have lost (c : BeamCode) : ChannelsSound (loseReference c s) := by
    have hl := channelsSound_referenceChanged (channelsSound_loseBeam c h)
    unfold loseReference
    dsimp only
    split
    · exact channelsSound_reportRecovered (channelsSound_of_same hl (by simp))
    · exact channelsSound_reportSuspend hl
  unfold fadingTimeout
  split <;> [split; exact h] <;> [exact lost _; exact h]

theorem channelsSound_expireAll {s : State} (h : ChannelsSound s) : ChannelsSound (expireAll s) := by
  have hb : ChannelsSound (expireBeams s) := channelsSound_strikeTimeout .b3 (channelsSound_strikeTimeout .b2
    (channelsSound_strikeTimeout .b1 (channelsSound_strikeTimeout .b0 h)))
  rw [expireAll_eq]
  split <;> [exact channelsSound_referenceTimeout hb; exact channelsSound_fadingTimeout hb]

/-! ## Lines and edges -/

theorem channelsSound_odoEdge {s : State} (w : Bool) (h : ChannelsSound s) : ChannelsSound (odoEdge w s) := by
  have held (m : Nat) {t : State} (ht : ChannelsSound t) : ChannelsSound (addHoldDistance m t) := by
    have hd : ChannelsSound { t with chain := { t.chain with dH := holdDistanceAfter m t } } :=
      channelsSound_of_same ht (by simp)
    unfold addHoldDistance compareHoldDistance
    split <;> [split; exact ht] <;> [exact channelsSound_reportSuspend hd; exact hd]
  have counted : ChannelsSound (countEdge w s) := by
    refine held _ ?_
    split <;> exact channelsSound_of_same h (by simp)
  unfold odoEdge
  split <;> [exact channelsSound_endTest .travel counted; exact channelsSound_endTest .travel h]

theorem channelsSound_acceptLine {s : State} (l : Line) (h : ChannelsSound s) : ChannelsSound (acceptLine l s) := by
  have hl : ChannelsSound (setLine l { lineOf s l with active := !(lineOf s l).active, since := none } s) :=
    channelsSound_of_same h (by simp)
  unfold acceptLine
  cases l with
  | odo => dsimp only; split <;> [exact channelsSound_odoEdge _ hl; exact hl]
  | dir | dig => exact hl
  | stop => dsimp only; split <;> [exact hl; exact channelsSound_trip _]

theorem channelsSound_filterExpiry {s : State} (l : Line) (h : ChannelsSound s) : ChannelsSound (filterExpiry l s) := by
  unfold filterExpiry
  split <;> [exact channelsSound_acceptLine l h; exact h]

theorem channelsSound_lineLevelChange {s : State} (l : Line) (high : Bool) (h : ChannelsSound s) :
    ChannelsSound (lineLevelChange l high s) := by
  have set {t : State} (f : LineFilter) (ht : ChannelsSound t) : ChannelsSound (setLine l f t) :=
    channelsSound_of_same ht (by simp)
  have start {t : State} (ht : ChannelsSound t) : ChannelsSound (startCandidate l t) := by
    unfold startCandidate
    dsimp only
    split <;> [split; exact ht] <;> [exact channelsSound_acceptLine l (set _ ht); exact set _ ht]
  unfold lineLevelChange
  dsimp only
  split <;> [exact set _ h; exact start (set _ h)]

/-! ## Parameters -/

/-- The clamp keeps NEUTRAL held and a pending value pending (R106). -/
theorem sameChannels_clampDemands (s : State) : SameChannels s (clampDemands s) :=
  have hwaiting : (s.depth.waiting.map (clampDepthValue s.params.umax)).isSome = s.depth.waiting.isSome := by simp
  have hheld : s.depth.held = .neutral → clampDepthValue s.params.umax s.depth.held = .neutral := fun h => by
    rw [h]; rfl
  ⟨rfl, rfl, Iff.rfl, hwaiting, rfl, hheld, rfl, rfl, rfl⟩

/-- A change to IMMEDIATE emits or discards what is pending; in TRIPPED nothing is (R115). -/
theorem channelsSound_depthModeEffect {s : State} (old : UpdateMode) (h : ChannelsSound s) :
    ChannelsSound (depthModeEffect old s) := by
  unfold depthModeEffect
  split <;> [skip; exact h]
  rename_i hold
  obtain ⟨-, -, hfresh⟩ := hold
  have hs : s.ctl.state ≠ .tripped := fun ht => by simp [(not_fresh_of_tripped h ht).1] at hfresh
  split
  · rename_i hsilenced
    obtain ⟨-, hheld⟩ := h.silent (or_assoc.1 (Or.inl ((silenced_iff s).1 hsilenced)))
    exact channelsSound_of_quiet (testSound_of_eq h.test rfl rfl rfl) ⟨rfl, rfl, hheld⟩ h.travel hs
  · exact channelsSound_takeDepth h ⟨by simp_all, hs⟩

theorem channelsSound_travelModeEffect {s : State} (old : UpdateMode) (h : ChannelsSound s) :
    ChannelsSound (travelModeEffect old s) := by
  unfold travelModeEffect
  split <;> [skip; exact h]
  rename_i hold
  obtain ⟨-, -, hfresh⟩ := hold
  exact channelsSound_takeTravel h fun ht => by simp [(not_fresh_of_tripped h ht).2] at hfresh

theorem channelsSound_paramEffect {s : State} (id : Nat) (old : Params) (h : ChannelsSound s) :
    ChannelsSound (paramEffect id old s) := by
  obtain ⟨hsource, htick⟩ := outputs_tickEffects s
  unfold paramEffect
  split
  · exact channelsSound_of_same h (by simp)
  · exact channelsSound_expireAll h
  · exact channelsSound_of_same h (by simp)
  · exact channelsSound_filterExpiry _ h
  · exact channelsSound_filterExpiry _ h
  · exact channelsSound_filterExpiry _ h
  · exact channelsSound_filterExpiry _ h
  · exact channelsSound_of_same h (sameChannels_clampDemands s)
  · exact channelsSound_of_outputs h htick
  · exact channelsSound_of_outputs h (hsource _)
  · exact channelsSound_syncTimeout h
  · exact channelsSound_depthModeEffect _ h
  · exact channelsSound_travelModeEffect _ h
  · exact channelsSound_of_same h (by simp)
  · exact channelsSound_of_same h (by simp)
  · exact channelsSound_checkMax h
  · exact channelsSound_noBeamTimeout h
  · exact h

theorem channelsSound_paramWrite {s : State} (body : List Byte) (h : ChannelsSound s) :
    ChannelsSound (paramWrite body s).state := by
  obtain hs | ⟨id, v, hs⟩ := paramWrite_state body s <;> rw [hs] <;> [exact h; skip]
  exact channelsSound_paramEffect id s.params (channelsSound_of_same h (by simp))

end Sys2Proof.Machine
end

section
/-! The output channels' consistency: the requests, the resets and the step. -/

namespace Sys2Proof.Machine

/-! ## Runs, modes and resets -/

/-- OPEN_RUN enters MANUAL from STANDBY (R78). -/
theorem channelsSound_openRunRequest {s : State} (body : List Byte) (h : ChannelsSound s) :
    ChannelsSound (openRunRequest body s).state := by
  obtain hr | ⟨start, g, discard, hs, -, -, hr⟩ := openRunRequest_state body s <;> rw [hr] <;> [exact h; skip]
  have ht : s.ctl.state ≠ .test := by simp [hs]
  refine channelsSound_of_quiet (testSound_of_left h.test ht ?_ ?_ ?_) (quiet_enterIdle .manual _)
    (travelMarked_enterIdle .manual (travelMarked_of_eq (s := s) h.travel rfl)) ?_ <;> simp [openRun]

theorem channelsSound_closeRun {s : State} (h : ChannelsSound s) : ChannelsSound (closeRun s).state := by
  unfold closeRun
  split <;> [skip; exact h]
  rename_i hs
  have ended : ChannelsSound (endRun (finishTakeover s)) := channelsSound_of_same h (by simp)
  exact channelsSound_released ended (by obtain hs | hs := hs <;> simp [hs]) (Or.inl rfl)

theorem channelsSound_bench {s : State} (body : List Byte) (h : ChannelsSound s) :
    ChannelsSound (bench body s).state := by
  obtain hb | ⟨-, c, d, hb⟩ := bench_state body s <;> rw [hb] <;> [exact h; skip]
  obtain hf | hf | ⟨v, hf | hf⟩ := finishBench_state c d s <;> rw [hf]
  · exact h
  · exact channelsSound_of_same h (by simp)
  · exact channelsSound_of_same h (by simp)
  · unfold benchBeam
    exact channelsSound_of_same h (by simp)

theorem channelsSound_takeModeAuto {s : State} (body : List Byte) (h : ChannelsSound s) :
    ChannelsSound (takeModeAuto body s).state := by
  unfold takeModeAuto setModeAuto
  split <;> [split; exact h] <;> [skip; exact h]
  rename_i hs
  obtain ⟨hstate, -⟩ := hs
  exact channelsSound_enterAuto h (by simp [hstate])

theorem channelsSound_resume {s : State} (h : ChannelsSound s) : ChannelsSound (resume s).state := by
  unfold resume
  split <;> [skip; exact h]
  rename_i hs
  obtain ⟨hstate, -⟩ := hs
  exact channelsSound_enterAuto h (by simp [hstate])

theorem channelsSound_takeModeManual {s : State} (body : List Byte) (h : ChannelsSound s) :
    ChannelsSound (takeModeManual body s).state := by
  unfold takeModeManual setModeManual
  split <;> [split; exact h] <;> [skip; exact h]
  rename_i hs
  exact channelsSound_released h (by obtain hs | hs | hs := hs <;> simp [hs]) (Or.inr rfl)

theorem idleState_cases (s : State) : idleState s = .standby ∨ idleState s = .manual := by
  unfold idleState
  split <;> simp

theorem channelsSound_clearTrip {s : State} (h : ChannelsSound s) : ChannelsSound (clearTrip s).state := by
  unfold clearTrip
  split <;> [exact h; skip]
  rename_i hs
  exact channelsSound_released h (by rintro ht; simp [ht] at hs) (idleState_cases s)

theorem channelsSound_handover {s : State} (body : List Byte) (h : ChannelsSound s) :
    ChannelsSound (handover body s).state := by
  unfold handover
  split <;> [exact h; split] <;> [skip; exact h]
  exact channelsSound_reportRecovered (channelsSound_referenceChanged (channelsSound_of_same h (by simp)))

theorem channelsSound_takeManual {s : State} (f : Arrival) (h : ChannelsSound s) : ChannelsSound (takeManual f s) := by
  have forwards (g : CanFrame) {t : State} (ht : ChannelsSound t) : ChannelsSound (forwardToD g t) :=
    channelsSound_of_same ht (by simp)
  have overrides (hs : s.ctl.state ≠ .test) : ChannelsSound (override s) :=
    channelsSound_latchHere _ _ (channelsSound_released h hs (Or.inr rfl))
  unfold takeManual
  split <;> [exact channelsSound_of_same h (by simp); skip]
  unfold gateManual
  split
  case h_1 | h_2 => exact forwards _ h
  case h_6 => split <;> [exact forwards _ (channelsSound_endTest .override h); exact h]
  case h_7 => exact h
  case h_3 hs | h_4 hs | h_5 hs => split <;> [exact forwards _ (overrides (by simp [hs])); exact h]

/-- A reset leaves the channels as after power-on, in STANDBY with no test (R96, R130, R157). -/
theorem channelsSound_of_reset {t : State} (hctl : t.ctl = resetControl) (hdepth : t.depth = resetDepth)
    (htravel : t.travel = resetTravel) (htest : t.test = resetTest) : ChannelsSound t :=
  channelsSound_of_same channelsSound_reset (by simp [State.reset, hctl, hdepth, htravel, htest])

theorem channelsSound_masterReset (s : State) : ChannelsSound (masterReset s) := by
  rw [masterReset_eq]
  exact channelsSound_of_reset rfl rfl rfl rfl

theorem closeRunningTest_of_not_running {s : State} (o : TestOutcome) (h : testRunning s = false) :
    closeRunningTest o s = s := by
  unfold closeRunningTest
  split <;> simp_all [testRunning, testRun]

/-- A run clear keeps the stopped channels in TRIPPED and silences DEPTH anywhere else (R95, R130). -/
theorem channelsSound_clearRun {s : State} (h : ChannelsSound s) : ChannelsSound (clearRun s) := by
  have cleared {t : State} (ht : ChannelsSound t) : ChannelsSound (clearBlocks t) :=
    channelsSound_of_same ht (by simp [clearBlocks])
  unfold clearRun clearControl
  dsimp only
  split
  · rename_i hs
    have ht : s.ctl.state = .tripped := by simpa using hs
    rw [closeRunningTest_of_not_running .request (not_running_of_testSound h.test (by simp [ht]))]
    exact cleared (channelsSound_of_same h (by simp [h.test.noPrior (by simp [ht])]))
  · refine cleared (channelsSound_releaseControl ?_ (by simp) ?_ (Or.inl rfl))
    · rw [← testRunning_closeRunningTest .request s]
      exact testRunning_congr (by simp)
    · exact travelMarked_of_eq (s := s) h.travel (by simp)

theorem channelsSound_departU {s : State} (h : ChannelsSound s) : ChannelsSound (departU s) := by
  unfold departU afterDeparture
  split <;> [exact h; split] <;> [exact channelsSound_masterReset _; exact channelsSound_of_same h (by simp)]

/-! ## The step -/

theorem channelsSound_answerRequest {code : Byte} {n : Nat} {r : Request} {act : List Byte → State → Answer}
    {s : State} (h : ChannelsSound s) (hact : ∀ body t, ChannelsSound t → ChannelsSound (act body t).state) :
    ChannelsSound (answerRequest code n r act s) :=
  answerRequest_keeps channelsSound_besideQueues hact h

theorem channelsSound_quietRequest {code : Byte} {n : Nat} {r : Request} {act : List Byte → State → Answer} {s : State}
    (h : ChannelsSound s) (hact : ∀ body t, outputs (act body t).state = outputs t) :
    ChannelsSound (answerRequest code n r act s) :=
  channelsSound_answerRequest h fun body t ht => channelsSound_of_outputs ht (hact body t)

theorem channelsSound_takeLoadEntry {s : State} (r : Request) (h : ChannelsSound s) :
    ChannelsSound (takeLoadEntry r s) := by
  unfold takeLoadEntry
  split
  · exact refusal_keeps channelsSound_besideQueues codeLoadEntry r .sequence h
  · exact channelsSound_quietRequest h (outputs_loadEntry _)

theorem channelsSound_exec {s : State} (c : Instr) (h : ChannelsSound s) : Yields ChannelsSound (exec c s) := by
  have beside := channelsSound_besideQueues
  cases c with
  | powerOn straps =>
    show ChannelsSound (powerOn straps s)
    rw [powerOn_eq]
    exact channelsSound_of_reset rfl rfl rfl rfl
  | strike f => exact channelsSound_takeStrike f h
  | tilt f => exact channelsSound_of_outputs h (outputs_takeTiltFrame f s)
  | sync f => exact channelsSound_takeSync (s := forwardTaken .d clsSync f s) (channelsSound_of_same h (by simp))
  | manualValve f => exact channelsSound_takeManual f h
  | forwardedFrame p id format data => exact channelsSound_of_same (t := forwardByTable p id _ s) h (by simp)
  | unclassifiedFrame p f => exact channelsSound_of_outputs h (outputs_passUnclassified p f s)
  | mgmtReqShortHeader prio src tag format byte => exact channelsSound_of_same (t := dropMalformed s) h (by simp)
  | unknownRequest code r => exact refusal_keeps beside code r .unknown h
  | identify broadcast r => exact identify_keeps beside broadcast r h
  | snapshot r => exact channelsSound_quietRequest h fun _ => outputs_noteTarget
  | reset r => exact takeReset_keeps beside channelsSound_masterReset r h
  | clearRun r => exact channelsSound_answerRequest h fun _ t ht => channelsSound_clearRun ht
  | paramRead r => exact channelsSound_quietRequest h outputs_paramRead
  | paramWrite r => exact channelsSound_answerRequest h fun body t ht => channelsSound_paramWrite body ht
  | loadBegin r => exact channelsSound_quietRequest h outputs_loadBegin
  | loadEntry r => exact channelsSound_takeLoadEntry r h
  | loadCommit r => exact channelsSound_quietRequest h outputs_loadCommit
  | loadCancel r => exact channelsSound_quietRequest h outputs_loadCancel
  | readEntry r => exact channelsSound_quietRequest h outputs_readEntry
  | openRun r => exact channelsSound_answerRequest h fun body t ht => channelsSound_openRunRequest body ht
  | closeRun r => exact channelsSound_answerRequest h fun _ t ht => channelsSound_closeRun ht
  | bench r => exact channelsSound_answerRequest h fun body t ht => channelsSound_bench body ht
  | setDepth r => exact channelsSound_quietRequest h outputs_setDepthRequest
  | setModeAuto r => exact channelsSound_answerRequest h fun body t ht => channelsSound_takeModeAuto body ht
  | setModeManual r => exact channelsSound_answerRequest h fun body t ht => channelsSound_takeModeManual body ht
  | resume r => exact channelsSound_answerRequest h fun _ t ht => channelsSound_resume ht
  | clearTrip r => exact channelsSound_answerRequest h fun _ t ht => channelsSound_clearTrip ht
  | handover r => exact channelsSound_answerRequest h fun body t ht => channelsSound_handover body ht
  | adopt r => exact channelsSound_quietRequest h outputs_adopt
  | testStart r => exact channelsSound_answerRequest h fun body t ht => channelsSound_testStart body ht
  | testAbort r => exact channelsSound_answerRequest h fun _ t ht => channelsSound_testAbort ht
  | testResult r => exact channelsSound_quietRequest h fun _ _ => rfl
  | testApply r => exact channelsSound_quietRequest h fun _ => outputs_testApply
  | fwdWrite r => exact channelsSound_quietRequest h outputs_fwdWrite
  | fwdRead r => exact channelsSound_quietRequest h outputs_fwdRead
  | traceRead r => exact channelsSound_quietRequest h fun _ => outputs_traceRead
  | traceMark r => exact channelsSound_quietRequest h fun _ t => outputs_burst t _
  | traceUnmark r => exact channelsSound_quietRequest h fun _ t => outputs_burst t _
  | traceRewind r => exact channelsSound_quietRequest h fun _ => outputs_traceRewind
  | traceGate r => exact channelsSound_quietRequest h outputs_traceGate
  | eventRead r => exact channelsSound_quietRequest h fun _ _ => rfl
  | maskWrite r => exact channelsSound_quietRequest h outputs_maskWrite
  | countersRead r => exact channelsSound_quietRequest h fun _ _ => rfl
  | countersClear r => exact channelsSound_quietRequest h fun _ _ => rfl
  | portUFrameDeparture => exact channelsSound_departU h
  | arbiterTakesFrame => exact channelsSound_of_same (t := { s with portD := arbiterTakes s.portD }) h (by simp)
  | lineLevelChange l high => exact channelsSound_lineLevelChange l high h
  | acceptedOdoEdge => exact channelsSound_filterExpiry .odo h
  | acceptedDirChange => exact channelsSound_filterExpiry .dir h
  | acceptedDigChange => exact channelsSound_filterExpiry .dig h
  | stopAcceptedActive =>
    show ChannelsSound (if s.lines.stop.active then s else filterExpiry .stop s)
    split <;> [exact h; exact channelsSound_filterExpiry .stop h]
  | stopRelease =>
    show ChannelsSound (if s.lines.stop.active then filterExpiry .stop s else s)
    split <;> [exact channelsSound_filterExpiry .stop h; exact h]
  | strikeTimeout c => exact channelsSound_strikeTimeout c h
  | referenceTimeout => exact channelsSound_referenceTimeout h
  | fadingTimeout => exact channelsSound_fadingTimeout h
  | tiltExpiry => exact channelsSound_of_same (t := tiltExpiry s) h (by simp)
  | outputTick => exact channelsSound_outputTick h
  | syncTimeout => exact channelsSound_syncTimeout h
  | holdDistanceExpiry =>
    show ChannelsSound (if holdDistanceDue s then filterExpiry .odo s else s)
    split <;> [exact channelsSound_filterExpiry .odo h; exact h]
  | dwellClearMoment => exact channelsSound_firstStep h
  | stepTimerExpiry => exact channelsSound_stepTimerExpiry h
  | noBeamTimeout => exact channelsSound_noBeamTimeout h

end Sys2Proof.Machine

namespace Sys2Proof.Scope

open Machine

/-- Settles O9: every command keeps the channels consistent, and neither the queue nor the clock touches them. -/
theorem stepKeepsChannelsSound : Obligations.StepKeepsChannelsSound := fun _ _ h hst =>
  step_keeps (fun c _ hs => channelsSound_exec c hs) (fun _ _ _ _ hs => channelsSound_of_outputs hs rfl) h hst

end Sys2Proof.Scope
end

section
/-! The valve map (R124, R125). -/

namespace Sys2Proof.Machine

/-- Points j and j + 1 of the map are the first neighbours whose demands hold u between them. -/
structure LowestInterval (m : List MapPoint) (u j : Nat) (a b : MapPoint) : Prop where
  left : m[j]? = some a
  right : m[j + 1]? = some b
  low : a.d ≤ u
  high : u ≤ b.d
  first : ∀ (k : Nat) (x y : MapPoint), k < j → m[k]? = some x → m[k + 1]? = some y → ¬ (x.d ≤ u ∧ u ≤ y.d)

/-- A point in front of the map, with u above the interval it opens, moves the index 1 on. -/
theorem lowestInterval_cons {p q : MapPoint} {l : List MapPoint} {u j : Nat} {a b : MapPoint} (hu : q.d < u)
    (h : LowestInterval (q :: l) u j a b) : LowestInterval (p :: q :: l) u (j + 1) a b where
  left := by simpa using h.left
  right := by simpa using h.right
  low := h.low
  high := h.high
  first k x y hk hx hy := by
    cases k with
    | zero =>
      obtain rfl : q = y := by simpa using hy
      omega
    | succ k => exact h.first k x y (by omega) (by simpa using hx) (by simpa using hy)

/-- A map whose demands reach from u or below to u or above has an interval that holds u. -/
theorem exists_lowestInterval {u : Nat} (rest : List MapPoint) : ∀ (p q : MapPoint), p.d ≤ u →
    (∀ z, (p :: q :: rest).getLast? = some z → u ≤ z.d) → ∃ j a b, LowestInterval (p :: q :: rest) u j a b := by
  induction rest with
  | nil => exact fun p q hp hlast => ⟨0, p, q, rfl, rfl, hp, hlast q rfl, fun k _ _ hk => absurd hk (by omega)⟩
  | cons r rest ih =>
    intro p q hp hlast
    by_cases hq : u ≤ q.d
    · exact ⟨0, p, q, rfl, rfl, hp, hq, fun k _ _ hk => absurd hk (by omega)⟩
    · obtain ⟨j, a, b, h⟩ := ih q r (by omega) (by simpa using hlast)
      exact ⟨j + 1, a, b, lowestInterval_cons (by omega) h⟩

/-- The current is interpolated in the first interval that holds the demand (R125). -/
theorem mapCurrent_of_lowestInterval {u j : Nat} {a b : MapPoint} : ∀ {m : List MapPoint}, LowestInterval m u j a b →
    mapCurrent m u = some (a.i + roundDiv (((b.i : Int) - a.i) * ((u : Int) - a.d)) (b.d - a.d)).toNat := by
  induction j with
  | zero =>
    rintro (- | ⟨p, - | ⟨q, rest⟩⟩) ⟨left, right, low, high, -⟩
    · simp at left
    · simp at right
    · obtain rfl : p = a := by simpa using left
      obtain rfl : q = b := by simpa using right
      simp [mapCurrent, low, high]
  | succ j ih =>
    rintro (- | ⟨p, - | ⟨q, rest⟩⟩) ⟨left, right, low, high, first⟩
    · simp at left
    · simp at left
    · rw [mapCurrent, if_neg (first 0 p q (by omega) rfl rfl)]
      exact ih ⟨by simpa using left, by simpa using right, low, high, fun k x y hk hx hy =>
        first (k + 1) x y (by omega) (by simpa using hx) (by simpa using hy)⟩

/-- Neighbours in a list whose images are chained are related by their images. -/
theorem rel_of_isChain_map {R : Nat → Nat → Prop} {f : MapPoint → Nat} {m : List MapPoint} {j : Nat} {a b : MapPoint}
    (h : (m.map f).IsChain R) (ha : m[j]? = some a) (hb : m[j + 1]? = some b) : R (f a) (f b) := by
  obtain ⟨hj, rfl⟩ := List.getElem?_eq_some_iff.1 ha
  obtain ⟨hj', rfl⟩ := List.getElem?_eq_some_iff.1 hb
  exact List.isChain_iff_getElem.1 ((List.isChain_map f).1 h) j hj'

/-- A valid map has an interval for every demand to 10,000. -/
theorem exists_lowestInterval_of_mapValid {m : List MapPoint} {u : Nat} (hm : mapValid m = true) (hu : u ≤ 10000) :
    ∃ j a b, LowestInterval m u j a b := by
  obtain ⟨hlength, hfirst, hlast, -, -⟩ := (mapValid_iff m).1 hm
  match m with
  | [] | [_] => simp at hlength
  | p :: q :: rest =>
    have hp : p.d = 0 := by simpa using hfirst
    refine exists_lowestInterval rest p q (by omega) fun z hz => ?_
    rw [hz] at hlast
    have : z.d = 10000 := by simpa using hlast
    omega

end Sys2Proof.Machine

namespace Sys2Proof.Scope

open Machine

/-- Settles O26: the interval is the first that holds the demand, and the rounded part of the way does not leave it. -/
theorem valveMapInterpolates : Obligations.ValveMapInterpolates := by
  intro m u hm _ hu
  obtain ⟨j, a, b, h⟩ := exists_lowestInterval_of_mapValid hm hu
  obtain ⟨-, -, -, hdemands, hcurrents⟩ := (mapValid_iff m).1 hm
  have hd : a.d < b.d := rel_of_isChain_map hdemands h.left h.right
  have hi : a.i ≤ b.i := rel_of_isChain_map hcurrents h.left h.right
  have low := h.low
  have high := h.high
  have hcast : ((u - a.d : Nat) : Int) = (u : Int) - a.d := by omega
  obtain ⟨hmin, hmax⟩ := interpolated_between a.i b.i (f := u - a.d) (d := b.d - a.d) (by omega) (by omega)
  rw [hcast] at hmin hmax
  exact ⟨j, a, b, _, h.left, h.right, low, high, h.first, mapCurrent_of_lowestInterval h, by omega, by omega, by omega⟩

end Sys2Proof.Scope
end

section
/-! The departures at Port U (R152, R171, R186) and the arbiter of Port D (R128; log 6, log 20). -/

namespace Sys2Proof.Machine

theorem exec_portUFrameDeparture (s : State) : exec .portUFrameDeparture s = .next (departU s) := rfl

theorem exec_arbiterTakesFrame (s : State) :
    exec .arbiterTakesFrame s = .next { s with portD := arbiterTakes s.portD } := rfl

/-- Port U takes the oldest frame; BURST streaming and the master reset of a marked reply follow (R152, R186). -/
theorem departU_of_cons {s : State} {q : QueuedU} {rest : List QueuedU} (h : s.portU.queue = q :: rest) :
    departU s =
      let t := burst { s with portU := ⟨rest, some q.frame⟩ }
      if q.resetReply then masterReset t else t := by
  simp only [departU, h, afterDeparture]

theorem departU_of_nil {s : State} (h : s.portU.queue = []) : departU s = s := by simp only [departU, h]

theorem arbiterTakes_depthSlot {p : PortD} {f : CanFrame} (h : p.depthSlot = some f) :
    arbiterTakes p = { p with depthSlot := none, sent := some f } := by
  simp only [arbiterTakes, h]

theorem arbiterTakes_travelSlot {p : PortD} {f : CanFrame} (hdepth : p.depthSlot = none)
    (h : p.travelSlot = some f) : arbiterTakes p = { p with travelSlot := none, sent := some f } := by
  simp only [arbiterTakes, hdepth, h]

theorem arbiterTakes_queue {p : PortD} {f : CanFrame} {rest : List CanFrame} (hdepth : p.depthSlot = none)
    (htravel : p.travelSlot = none) (h : p.queue = f :: rest) :
    arbiterTakes p = { p with queue := rest, sent := some f } := by
  simp only [arbiterTakes, hdepth, htravel, h]

theorem arbiterTakes_nothing {p : PortD} (hdepth : p.depthSlot = none) (htravel : p.travelSlot = none)
    (h : p.queue = []) : arbiterTakes p = p := by
  simp only [arbiterTakes, hdepth, htravel, h]

end Sys2Proof.Machine

namespace Sys2Proof.Scope

open Machine

/-- Settles O21: a departure by the Port U queue's front, the arbiter's turn by the first of the three places that holds
a frame. -/
theorem portsTakeFrames : Obligations.PortsTakeFrames := by
  intro s
  refine ⟨fun q rest h => ?_, fun h => ?_, fun f h => ?_, fun f hdepth h => ?_, fun f rest hdepth htravel h => ?_,
    fun hdepth htravel h => ?_⟩
  · rw [exec_portUFrameDeparture, departU_of_cons h]
  · rw [exec_portUFrameDeparture, departU_of_nil h]
  · rw [exec_arbiterTakesFrame, arbiterTakes_depthSlot h]
  · rw [exec_arbiterTakesFrame, arbiterTakes_travelSlot hdepth h]
  · rw [exec_arbiterTakesFrame, arbiterTakes_queue hdepth htravel h]
  · rw [exec_arbiterTakesFrame, arbiterTakes_nothing hdepth htravel h]

end Sys2Proof.Scope
end

section
/-! Writes and emissions of the output channels (R112 to R114, R118, R120, R123, R125, R127). -/

namespace Sys2Proof.Machine

/-! ## Writes -/

/-- A value written to the DEPTH channel, by state and mode (R113, R114, R118, R120). -/
theorem writeDepth_eq (v : DepthValue) (s : State) : writeDepth v s =
    if s.ctl.state = .standby ∨ s.ctl.state = .manual then s
    else if s.ctl.state = .test ∨ s.params.modeDepth = .immediate then
      emitDepth { s with depth := { s.depth with held := v } }
    else { s with depth := { s.depth with waiting := some v, fresh := true } } := by
  simp only [writeDepth, silenced_iff, depthImmediate_iff]
  rfl

/-! ## Emission -/

/-- A value of a direction: a demand, or a test value. -/
def directed (d : Dir) (isTest : Bool) (u : Nat) : DepthValue := if isTest then .test d u else .demand d u

/-- The dwell has not passed where the opposite direction was emitted less than P_DWELL ago (R123). -/
theorem not_dwellPassed (d : Dir) (s : State) : (!dwellPassed d s) =
    (if d = .raise then s.depth.lastLower else s.depth.lastRaise).any (fun t => age s.now.ms t < s.params.dwell) := by
  unfold dwellPassed
  cases (if d = .raise then s.depth.lastLower else s.depth.lastRaise) <;> simp [← decide_not]

/-- The gate forces a directed value whose dwell has not passed (R123). -/
theorem gateForces_directed (d : Dir) (isTest : Bool) (u : Nat) (s : State) :
    gateForces (directed d isTest u) s = !dwellPassed d s := by
  cases isTest <;> simp [directed, gateForces, dwellClear_eq]

/-- A held value that the gate forces is emitted as NEUTRAL, and the demand memory becomes 0 (R123). -/
theorem emitDepth_of_forced {s : State} (h : gateForces s.depth.held s = true) :
    emitDepth s = neutralSent { s with ctl := { s.ctl with memory := 0 } } := by
  rw [← emitDepthNow_neutral, emitDepth, if_pos h]
  rfl

theorem emitDepth_of_free {s : State} (h : gateForces s.depth.held s = false) :
    emitDepth s = placeDepth (depthFrame s.depth.held s) s := by
  simp [emitDepth, h]

/-- A held NEUTRAL passes the gate (R123). -/
theorem emitDepth_of_neutral {s : State} (h : s.depth.held = .neutral) : emitDepth s = neutralSent s := by
  rw [← emitDepthNow_neutral, emitDepthNow, holdDepth, ← h]

/-- The VALVE_CMD frame in bytes (R172, R196). -/
theorem valveCmd_eq (f : DepthFrame) (s : State) : valveCmd f s =
    ⟨.ext (identOf 1 0x31 63 s.node 0), .data .fd, [byte (dirCode f.dir)] ++ bytes2 f.current ++ [f.seq]⟩ := by
  simp [valveCmd, ownFrame, padded, fdLength, bytes2, clsValveCmd, broadcastNode]

/-- The current of a demand in the map of its direction (R125). -/
theorem demandCurrent_eq {d : Dir} {u i : Nat} {m : List MapPoint} {s : State}
    (hm : (if d = .raise then s.store.raiseMap else s.store.lowerMap) = some m) (hi : mapCurrent m u = some i) :
    demandCurrent d u s = i := by
  have hmap : valveMap d s = some m := by cases d <;> simpa [valveMap] using hm
  simp [demandCurrent, hmap, hi]

end Sys2Proof.Machine

namespace Sys2Proof.Scope

open Machine

/-- Settles O48: the writes by state and mode, and an emission by what the gate says of the held value's direction. -/
theorem channelWritesAndEmission : Obligations.ChannelWritesAndEmission := by
  intro s
  refine ⟨fun v => writeDepth_eq v s, fun v => writeTravel_eq v s, fun d isTest u hheld => ?_, emitDepth_of_neutral⟩
  intro opposite wire sent code
  change s.depth.held = directed d isTest u at hheld
  refine ⟨fun hrecent => ?_, fun hpassed => ?_⟩
  · refine emitDepth_of_forced ?_
    rw [hheld, gateForces_directed, not_dwellPassed]
    exact hrecent
  · have hfree : gateForces s.depth.held s = false := by
      rw [hheld, gateForces_directed]
      simpa [dwellPassed] using hpassed
    have hplaced (f : DepthFrame) (hf : f.seq = s.depth.seq) :
        placeDepth f s = sent f (byte (dirCode f.dir)) := by
      simp only [placeDepth, valveCmd_eq, sent, wire, hf]
    rw [emitDepth_of_free hfree, hheld]
    have hcode : byte (dirCode (some d)) = code := by
      cases d <;> rfl
    refine ⟨fun ht hu => ?_, fun ht hu => ?_, fun m i ht hm hi => ?_⟩ <;> subst ht
    · rw [directed, if_pos rfl, depthFrame, if_pos hu, hplaced _ rfl]
      rfl
    · rw [directed, if_pos rfl, depthFrame, if_neg (by omega), hplaced _ rfl, hcode]
    · rw [directed, if_neg (by simp), depthFrame, demandCurrent_eq hm hi, hplaced _ rfl, hcode]

end Sys2Proof.Scope
end

section
/-! Output ticks: the generator, the channels and the streaming at a tick (R113, R114, R116 to R119, R121, R122, R151,
R153; log 3, log 12, log 38). -/

namespace Sys2Proof.Machine

/-! ## The generator -/

/-- A tick made at a moment, P_TICK before the next internal one, which leaves the generator in a mode, with a start of
the SYNC timeout and with or without an internal tick still to be made (R121, R122, log 38). -/
def tickMade (now : Ms) (period : Nat) (m : TickMode) (since : Ms) (owed : Bool) (s : State) : State :=
  deliverTick { s with tick := ⟨m, now, now + BitVec.ofNat 32 period, since, owed⟩ }

theorem outputTick_of_due {s : State} (h : tickDue s = true) :
    outputTick s = tickMade s.now.ms s.params.tick s.tick.mode s.tick.syncSince false s := by
  rw [outputTick, if_pos h]
  rfl

theorem outputTick_of_not_due {s : State} (h : ¬ tickDue s = true) : outputTick s = s := if_neg h

theorem takeSync_of_internal {s : State} (h : s.tick.mode = .internalTicks) : takeSync s = s := by
  simp only [takeSync, h]

/-- In SYNC and FALLBACK mode a SYNC frame makes a tick, and leaves an internal tick that is due to be made (log 38). -/
theorem takeSync_of_ne {s : State} (h : s.tick.mode ≠ .internalTicks) :
    takeSync s = tickMade s.now.ms s.params.tick .syncFrames s.now.ms (tickDue s) s := by
  cases hm : s.tick.mode with
  | internalTicks => exact absurd hm h
  | syncFrames | fallback =>
    simp only [takeSync, hm]
    rfl

/-- The fallback tick comes before SYNC_LOST, which it does not reach (log 12). -/
theorem syncTimeout_of_due {s : State} (h : syncDue s = true) : syncTimeout s =
    latch .syncLost none s.chain.s (tickMade s.now.ms s.params.tick .fallback s.tick.syncSince s.tick.owed s) := by
  have hchain : (tickMade s.now.ms s.params.tick .fallback s.tick.syncSince s.tick.owed s).chain = s.chain := by
    simp [tickMade]
  rw [syncTimeout, if_pos h, ← hchain]
  rfl

theorem syncTimeout_of_not_due {s : State} (h : ¬ syncDue s = true) : syncTimeout s = s := if_neg h

/-! ## The DEPTH channel at a tick -/

theorem depthAtTick_of_silenced {s : State} (h : silenced s = true) : depthAtTick s = s := if_pos h

theorem depthAtTick_of_tripped {s : State} (h : s.ctl.state = .tripped) : depthAtTick s = emitDepth s := by
  simp [depthAtTick, silenced, h]

/-- In IMMEDIATE mode a value emitted since the last tick is not emitted again (R114). -/
theorem depthAtTick_of_emitted {s : State} (hs : ¬ silenced s = true) (ht : s.ctl.state ≠ .tripped)
    (hi : depthImmediate s = true) (he : s.depth.emitted = true) : depthAtTick s = s := by
  rw [depthAtTick, if_neg hs, if_neg ht, if_pos hi, if_pos he]

theorem depthAtTick_of_fresh {s : State} (hs : ¬ silenced s = true) (ht : s.ctl.state ≠ .tripped)
    (hi : ¬ depthImmediate s = true) (hf : s.depth.fresh = true) : depthAtTick s = takeDepth s := by
  rw [depthAtTick, if_neg hs, if_neg ht, if_neg hi, if_pos hf]

/-- A tick is stale with nothing emitted since the last one, or with no fresh value (R116). -/
theorem depthAtTick_of_stale {s : State} (hs : ¬ silenced s = true) (ht : s.ctl.state ≠ .tripped)
    (h : depthImmediate s = true ∧ s.depth.emitted = false ∨ ¬ depthImmediate s = true ∧ s.depth.fresh = false) :
    depthAtTick s = staleDepth s := by
  rw [depthAtTick, if_neg hs, if_neg ht]
  obtain ⟨hi, he⟩ | ⟨hi, hf⟩ := h
  · rw [if_pos hi, if_neg (by simp [he])]
  · rw [if_neg hi, if_neg (by simp [hf])]

theorem takeDepth_of_waiting {s : State} {v : DepthValue} (h : s.depth.waiting = some v) : takeDepth s =
    emitDepth { s with depth := { s.depth with held := v, waiting := none, fresh := false } } := by
  rw [takeDepth, h, Option.getD_some]

theorem staleDepth_of_auto {s : State} (h : s.ctl.state = .auto) :
    staleDepth s = emitDepth (decayHeld (count .staleTicks 1 s)) := by
  rw [staleDepth, if_pos h]

theorem staleDepth_of_ne {s : State} (h : s.ctl.state ≠ .auto) : staleDepth s = emitDepth s := by
  rw [staleDepth, if_neg h]

theorem decayHeld_of_neutral {s : State} (h : s.depth.held = .neutral) : decayHeld s = s := by
  simp only [decayHeld, h]

/-- A value held and remembered. -/
def remembered (v : DepthValue) (m : Int) (s : State) : State :=
  { s with depth := { s.depth with held := v }, ctl := { s.ctl with memory := m } }

/-- The decay of a held demand: a floor, NEUTRAL with OUTPUT_DECAYED below P_UMIN (R105, R117). -/
theorem decayHeld_of_demand {s : State} {d : Dir} {u : Nat} (h : s.depth.held = .demand d u) : decayHeld s =
    let v := u * (10000 - s.params.decay) / 10000
    if v = 0 ∨ v < s.params.umin then latch .outputDecayed (reference s) s.chain.s (remembered .neutral 0 s)
    else remembered (.demand d v) (if d = .raise then v else -v) s := by
  have ended : setMemory 0 (latchHere .outputDecayed (reference s) (holdDepth .neutral s)) =
      latch .outputDecayed (reference s) s.chain.s (remembered .neutral 0 s) := by
    have hctl := latch_with_ctl .outputDecayed (reference s) s.chain.s { s.ctl with memory := 0 } (holdDepth .neutral s)
    simpa [setMemory, latchHere, holdDepth, remembered] using hctl.symm
  simp only [decayHeld, h, ended, decayed]
  cases d <;> rfl

/-! ## The TRAVEL channel at a tick -/

theorem travelAtTick_of_tripped {s : State} (h : s.ctl.state = .tripped) :
    travelAtTick s = travelSent s.travel.held s := by
  rw [travelAtTick, if_pos h, emitTravel_eq]

theorem travelAtTick_of_emitted {s : State} (ht : s.ctl.state ≠ .tripped) (hm : s.params.modeTravel = .immediate)
    (he : s.travel.emitted = true) : travelAtTick s = s := by
  simp only [travelAtTick, if_neg ht, hm, if_pos he]

theorem travelAtTick_of_fresh {s : State} (ht : s.ctl.state ≠ .tripped) (hm : s.params.modeTravel = .synchronous)
    (hf : s.travel.fresh = true) : travelAtTick s = takeTravel s := by
  simp only [travelAtTick, if_neg ht, hm, if_pos hf]

theorem travelAtTick_of_stale {s : State} (ht : s.ctl.state ≠ .tripped)
    (h : s.params.modeTravel = .immediate ∧ s.travel.emitted = false ∨
      s.params.modeTravel = .synchronous ∧ s.travel.fresh = false) : travelAtTick s = staleTravel s := by
  obtain ⟨hm, he⟩ | ⟨hm, hf⟩ := h
  · simp [travelAtTick, ht, hm, he]
  · simp [travelAtTick, ht, hm, hf]

theorem takeTravel_of_waiting {s : State} {v : TravelValue} (h : s.travel.waiting = some v) : takeTravel s =
    travelSent v { s with travel := { s.travel with waiting := none, fresh := false } } := by
  rw [takeTravel, emitTravel_eq, h]
  rfl

/-- A stale tick leaves the held TRAVEL value as it is (R116). -/
theorem staleTravel_eq (s : State) : staleTravel s =
    travelSent s.travel.held (if s.ctl.state = .auto then count .staleTicks 1 s else s) := by
  rw [staleTravel, emitTravel_eq]
  split <;> rfl

/-! ## The streaming -/

theorem streamTick_of_intermittent {s : State} (h : s.params.stream = .intermittent) :
    streamTick s = streamUpTo s.params.streamK s := if_pos h

theorem streamTick_of_ne {s : State} (h : s.params.stream ≠ .intermittent) : streamTick s = s := if_neg h

theorem streamUpTo_succ_of_mayStream {s : State} (k : Nat) (h : mayStream s) :
    streamUpTo (k + 1) s = streamUpTo k (recordsSent s) := by
  rw [streamUpTo, if_pos ((canStream_iff s).2 h), streamOne_eq]

theorem streamUpTo_of_not_mayStream {s : State} (k : Nat) (h : ¬ mayStream s) : streamUpTo k s = s := by
  cases k with
  | zero => rfl
  | succ k => rw [streamUpTo, if_neg (mt (canStream_iff s).1 h)]

end Sys2Proof.Machine

namespace Sys2Proof.Scope

open Machine

/-- Settles O49: the generator by what is due, each channel by state and mode, the streaming frame by frame. -/
theorem outputTicks : Obligations.OutputTicks := by
  refine ⟨fun s => ?_, fun s => ?_⟩
  · intro due tickNow
    have hdue : due ↔ tickDue s = true := expiryDue_tick s
    have made : tickMade s.now.ms s.params.tick = tickNow := rfl
    refine ⟨?_, fun f => ?_, ?_⟩
    · have run : exec .outputTick s = .next (outputTick s) := rfl
      rw [run]
      split
      · rename_i h
        rw [outputTick_of_due (hdue.1 h), made]
      · rename_i h
        rw [outputTick_of_not_due (mt hdue.2 h)]
    · intro t
      have htick : t.tick = s.tick := by simp [t]
      have hnow : t.now = s.now := by simp [t]
      have hparams : t.params = s.params := by simp [t]
      have hsame : tickDue t = tickDue s := by simp only [tickDue, htick, hnow]
      have run : exec (.sync f) s = .next (takeSync t) := rfl
      have taken (hm : s.tick.mode ≠ .internalTicks) :
          takeSync t = tickNow .syncFrames s.now.ms (tickDue s) t := by
        rw [takeSync_of_ne (by rwa [htick]), hsame, hnow, hparams, made]
      refine ⟨fun hm => ?_, fun hm h => ?_, fun hm h => ?_⟩
      · rw [run, takeSync_of_internal (by rwa [htick])]
      · rw [run, taken hm, hdue.1 h]
      · rw [run, taken hm, Bool.eq_false_of_not_eq_true (mt hdue.2 h)]
    · have run : exec .syncTimeout s = .next (syncTimeout s) := rfl
      rw [run]
      split
      · rename_i h
        rw [syncTimeout_of_due ((expiryDue_sync s).1 h), made]
      · rename_i h
        rw [syncTimeout_of_not_due (mt (expiryDue_sync s).2 h)]
  · intro stale unmarkD unmarkT immediate quiet
    have hquiet : silenced s = true ↔ quiet := silenced_iff s
    have himmediate : depthImmediate s = true ↔ immediate := depthImmediate_iff s
    have unmarksD (t : State) (h : depthAtTick s = t) : depthTick s = unmarkD t := h ▸ rfl
    have unmarksT (t : State) (h : travelAtTick s = t) : travelTick s = unmarkT t := h ▸ rfl
    refine ⟨fun hq => unmarksD _ (depthAtTick_of_silenced (hquiet.2 hq)),
      fun ht => unmarksD _ (depthAtTick_of_tripped ht), fun hq ht => ?_,
      fun ht => unmarksT _ (travelAtTick_of_tripped ht), fun ht => ?_,
      streamTick_of_ne, streamTick_of_intermittent, rfl, streamUpTo_succ_of_mayStream, streamUpTo_of_not_mayStream⟩
    · have hsilenced := mt hquiet.1 hq
      refine ⟨fun hi he => unmarksD _ (depthAtTick_of_emitted hsilenced ht (himmediate.2 hi) he),
        fun v hi hf hv => unmarksD _ ?_, fun hstale => ?_⟩
      · rw [depthAtTick_of_fresh hsilenced ht (mt himmediate.1 hi) hf, takeDepth_of_waiting hv]
      · rw [← himmediate] at hstale
        have hat := depthAtTick_of_stale hsilenced ht hstale
        refine ⟨fun hn => unmarksD _ ?_, fun d u ha hd => unmarksD _ ?_⟩
        · rw [hat]
          split
          · rename_i ha
            have hneutral : s.depth.held = .neutral := hn.resolve_left (not_not.2 ha)
            rw [staleDepth_of_auto ha, decayHeld_of_neutral (s := count .staleTicks 1 s) hneutral]
            rfl
          · rename_i ha
            rw [staleDepth_of_ne ha]
        · rw [hat, staleDepth_of_auto ha, decayHeld_of_demand (s := count .staleTicks 1 s) hd]
          rfl
    · refine ⟨fun hm he => unmarksT _ (travelAtTick_of_emitted ht hm he), fun v hm hf hv => unmarksT _ ?_,
        fun hstale => unmarksT _ ?_⟩
      · rw [travelAtTick_of_fresh ht hm hf, takeTravel_of_waiting hv]
      · rw [travelAtTick_of_stale ht hstale, staleTravel_eq]
        rfl

end Sys2Proof.Scope
end

section
/-! The events of a running valve test (R134 to R138, R140; log 3). -/

namespace Sys2Proof.Machine

/-! ## The running test -/

/-- A test runs in TEST, with the state it returns to and the step current that its record will hold (R90, R131,
R132). -/
structure InTest (t : TestRun) (back : CtlState) (current : Option Nat) (s : State) : Prop where
  state : s.ctl.state = .test
  prior : s.ctl.prior = some back
  back : back = .standby ∨ back = .manual
  phase : s.test.phase = .waiting t ∧ current = none ∨
    ∃ i m m0, s.test.phase = .stepping t i m m0 ∧ current = some i

section
variable {t : TestRun} {back : CtlState} {current : Option Nat} {s u : State}

theorem InTest.testRun_eq (h : InTest t back current s) : testRun s = some t := by
  obtain ⟨hp, -⟩ | ⟨i, m, m0, hp, -⟩ := h.phase <;> simp [testRun, hp]

theorem InTest.of_same (h : InTest t back current s) (hu : SameButQueues s u) : InTest t back current u := by
  obtain ⟨-, -, -, -, -, -, -, -, -, hctl, -, -, -, htest, -⟩ := hu
  exact ⟨by rw [hctl, h.state], by rw [hctl, h.prior], h.back, by rw [htest]; exact h.phase⟩

theorem InTest.endTest_eq (h : InTest t back current s) {o : TestOutcome} (ho : o ≠ .stop) :
    endTest o s = testEnded o back t current s :=
  Machine.endTest_eq ho h.prior h.back h.state h.phase

theorem noBeamTimeout_of_testRun (h : testRun s = some t) : noBeamTimeout s =
    if s.params.vtNostrike < age s.now.ms t.lastUsable then endTest .noBeam s else s := by
  simp [noBeamTimeout, noBeamDue, h]

theorem noBeamTimeout_of_not_running (h : testRunning s = false) : noBeamTimeout s = s := by
  unfold noBeamTimeout
  rw [endTest_of_not_running _ h, ite_self]

theorem testAbort_of_testRun (h : testRun s = some t) : testAbort s = done [] (endTest .request s) :=
  if_pos (by simp [testRunning, h])

theorem testAbort_of_not_running (h : testRunning s = false) : testAbort s = refuse .state s :=
  if_neg (by simp [h])

end

/-! ## The staircase -/

section
variable {t : TestRun} {s : State}

theorem firstStep_of_waiting (h : s.test.phase = .waiting t) : firstStep s =
    if dwellPassed t.dir s then
      if s.params.vtMax < s.params.vtStart then endTest .notFound s else writeStep t s.params.vtStart s
    else s := by
  simp only [firstStep, h, dwellClear_eq]

theorem firstStep_of_not_waiting (h : ∀ t, s.test.phase ≠ .waiting t) : firstStep s = s := by
  unfold firstStep
  split
  · rename_i t hp
    exact absurd hp (h t)
  · rfl
  · rfl

theorem stepTimerExpiry_of_not_due (h : stepDue s = false) : stepTimerExpiry s = s := by
  simp [stepTimerExpiry, h]

theorem stepDue_of_stepping {i : Nat} {timer set : Ms} (h : s.test.phase = .stepping t i timer set) :
    stepDue s = true ↔ age timer set ≤ age s.now.ms set := by
  simp [stepDue, h, reached]

theorem stepDue_of_not_stepping (h : ∀ t i m m0, s.test.phase ≠ .stepping t i m m0) : stepDue s = false := by
  unfold stepDue
  split
  · rename_i t i m m0 hp
    exact absurd hp (h t i m m0)
  · rfl
  · rfl

theorem movement_eq (t : TestRun) (b : Int) : movement t b = if t.dir = .raise then t.b0 - b else b - t.b0 := by
  unfold movement
  cases t.dir <;> rfl

/-- A step is judged by the movement of its beam's last height (R135). -/
theorem judgeStep_of_accepted {i : Nat} {timer set : Ms} {h : Height}
    (hp : s.test.phase = .stepping t i timer set) (hh : (beam s t.beam).accepted = some h) : judgeStep s =
      if (s.params.vtMove : Int) ≤ movement t h.b then endTest .found s
      else if (s.params.vtMove : Int) ≤ -movement t h.b then endTest .wrongDirection s
      else if i + s.params.vtStep ≤ s.params.vtMax then writeStep t (i + s.params.vtStep) s
      else endTest .notFound s := by
  simp only [judgeStep, hp, hh]

end

/-! ## Strikes of the test beam -/

/-- A phase with its last usable strike at a given moment (R136). -/
def renewedPhase (now : Ms) : TestPhase → TestPhase
  | .idle => .idle
  | .waiting t => .waiting { t with lastUsable := now }
  | .stepping t i timer set => .stepping { t with lastUsable := now } i timer set

section
variable {t : TestRun} {s : State} {c : BeamCode} {r : StrikeResult}

theorem phase_of_testRun (h : testRun s = some t) :
    s.test.phase = .waiting t ∨ ∃ i m m0, s.test.phase = .stepping t i m m0 := by
  unfold testRun at h
  split at h <;> simp_all

theorem handTestStrike_of_other_beam (h : testRun s = some t) (hc : c ≠ t.beam) : handTestStrike c r s = s :=
  handTestStrike_of_not fun t' ht' hb => hc (by rw [← hb, Option.some.inj (h.symm.trans ht')])

/-- An accepted or rebasing strike of the test beam renews the timeout (R136). -/
theorem handTestStrike_of_usable (h : testRun s = some t) {b : Int} (hr : r = .accepted b ∨ r = .rebased b) :
    handTestStrike c r s =
      if c = t.beam then { s with test := ⟨renewedPhase s.now.ms s.test.phase, s.test.result⟩ } else s := by
  split
  · rename_i hc
    subst hc
    obtain hp | ⟨i, m, m0, hp⟩ := phase_of_testRun h
    all_goals obtain rfl | rfl := hr <;> simp [handTestStrike, hp, renewedPhase]
  · rename_i hc
    exact handTestStrike_of_other_beam h hc

/-- An EDGE strike of the test beam, whichever the edge, ends the test (R136). -/
theorem handTestStrike_of_edge (h : testRun s = some t) (hr : r = .edgeHigh ∨ r = .edgeLow) :
    handTestStrike c r s = if c = t.beam then endTest .offColumn s else s := by
  split
  · rename_i hc
    subst hc
    obtain hp | ⟨i, m, m0, hp⟩ := phase_of_testRun h
    all_goals obtain rfl | rfl := hr <;> simp [handTestStrike, hp]
  · rename_i hc
    exact handTestStrike_of_other_beam h hc

theorem handTestStrike_of_unusable (hr : r = .jumpRejected ∨ r = .multi) : handTestStrike c r s = s := by
  obtain rfl | rfl := hr <;> cases hp : s.test.phase <;> simp [handTestStrike, hp]

theorem handTestStrike_of_not_running (h : testRunning s = false) : handTestStrike c r s = s :=
  handTestStrike_of_not fun t ht => by simp [testRunning, ht] at h

end

end Sys2Proof.Machine

namespace Sys2Proof.Scope

open Machine

/-- Settles O51: the endings and the strikes once for both phases, the staircase by its phase. -/
theorem testEvents : Obligations.TestEvents := by
  have runDwell (s : State) : exec .dwellClearMoment s = .next (firstStep s) := rfl
  have runStep (s : State) : exec .stepTimerExpiry s = .next (stepTimerExpiry s) := rfl
  have runNoBeam (s : State) : exec .noBeamTimeout s = .next (noBeamTimeout s) := rfl
  have runAbort {r : Request} {s : State} {act : State → Answer} (hbody : Carries r [])
      (h : ∀ u, SameButQueues s u → testAbort u = act u) : exec (.testAbort r) s = answered 0x41 r s act := by
    have run : exec (.testAbort r) s = .next (answerRequest codeTestAbort 0 r (fun _ => testAbort) s) := rfl
    exact run.trans ((next_answerRequest 0 hbody rfl).trans (answered_ext h))
  refine ⟨fun s t back hstate hprior hback => ?_, fun s hidle => ?_⟩
  · intro late ends struck
    have hends {current : Option Nat} (h : InTest t back current s) : ends current := by
      refine ⟨fun o ho => h.endTest_eq ho, ?_, fun r hbody => runAbort hbody fun u hu => ?_⟩
      · rw [runNoBeam, noBeamTimeout_of_testRun h.testRun_eq, h.endTest_eq (by decide)]
      · have hu' := h.of_same hu
        rw [testAbort_of_testRun hu'.testRun_eq, hu'.endTest_eq (by decide)]
        rfl
    have hstruck {current : Option Nat} {renewed : TestPhase} (h : InTest t back current s)
        (hp : renewedPhase s.now.ms s.test.phase = renewed) : struck renewed current := by
      intro c usable edge
      have hedge {r : StrikeResult} (hr : r = .edgeHigh ∨ r = .edgeLow) : handTestStrike c r s = edge := by
        rw [handTestStrike_of_edge h.testRun_eq hr, h.endTest_eq (by decide)]
      have husable {r : StrikeResult} {b : Int} (hr : r = .accepted b ∨ r = .rebased b) :
          handTestStrike c r s = usable := by
        rw [handTestStrike_of_usable h.testRun_eq hr, hp]
      exact ⟨fun b => ⟨husable (.inl rfl), husable (.inr rfl)⟩, hedge (.inl rfl), hedge (.inr rfl),
        handTestStrike_of_unusable (.inl rfl), handTestStrike_of_unusable (.inr rfl)⟩
    refine ⟨fun hp => ?_, fun i timer set hp => ?_⟩
    · have h : InTest t back none s := ⟨hstate, hprior, hback, .inl ⟨hp, rfl⟩⟩
      refine ⟨fun hd => ?_, fun hd => ?_, ?_, hends h, hstruck h (by rw [hp]; rfl)⟩
      · rw [runDwell, firstStep_of_waiting hp, hd]
        rfl
      · rw [runDwell, firstStep_of_waiting hp, if_pos hd, h.endTest_eq (by decide), writeStep_eq t _ hstate]
      · rw [runStep, stepTimerExpiry_of_not_due (stepDue_of_not_stepping (by simp [hp]))]
    · have h : InTest t back (some i) s := ⟨hstate, hprior, hback, .inr ⟨i, timer, set, hp, rfl⟩⟩
      refine ⟨?_, fun hearly => ?_, fun x hdue hx => ?_, hends h, hstruck h (by rw [hp]; rfl)⟩
      · rw [runDwell, firstStep_of_not_waiting (by simp [hp])]
      · have hnot : stepDue s = false := Bool.eq_false_of_not_eq_true (mt (stepDue_of_stepping hp).1 (not_le.2 hearly))
        rw [runStep, stepTimerExpiry_of_not_due hnot]
      · intro moved
        have hmoved : movement t x.b = moved := movement_eq t x.b
        have hjudged : stepTimerExpiry s = judgeStep s := if_pos ((stepDue_of_stepping hp).2 hdue)
        rw [runStep, hjudged, judgeStep_of_accepted hp hx, hmoved, h.endTest_eq (by decide),
          h.endTest_eq (by decide), h.endTest_eq (by decide), writeStep_eq t _ hstate]
        simp only [le_neg]
  · have hrun : testRunning s = false := testRunning_of_phase_idle hidle
    refine ⟨?_, ?_, ?_, fun c x => handTestStrike_of_not_running hrun, fun o => endTest_of_not_running o hrun,
      fun r hbody => runAbort hbody fun u hu => ?_⟩
    · rw [runDwell, firstStep_of_not_waiting (by simp [hidle])]
    · rw [runStep, stepTimerExpiry_of_not_due (stepDue_of_not_stepping (by simp [hidle]))]
    · rw [runNoBeam, noBeamTimeout_of_not_running hrun]
    · obtain ⟨-, -, -, -, -, -, -, -, -, -, -, -, -, htest, -⟩ := hu
      exact testAbort_of_not_running ((testRunning_congr htest).trans hrun)

end Sys2Proof.Scope
end

section
/-! The trace ring (R146 to R156): every command keeps its bound, the order of its positions and the records between
them. -/

namespace Sys2Proof.Machine

/-! ## The ring's operations -/

theorem traceSound_of_trace {s t : State} (h : TraceSound s) (ht : t.trace = s.trace) : TraceSound t := by
  obtain ⟨bound, order, kept⟩ := h
  exact ⟨by rwa [ht], by rwa [ht], by rwa [ht]⟩

theorem traceSound_besideQueues : BesideQueues TraceSound := by
  rintro s t ⟨-, -, -, -, -, -, -, -, -, -, -, -, -, -, htrace, -⟩ h
  exact traceSound_of_trace h htrace

/-- With no mark the anchor is the read pointer, and nothing is kept for a rewind (R147). -/
theorem readKept_of_no_mark {t : Trace} (h : t.mark = none) : readKept t = 0 := by
  simp [readKept, anchor, h]

theorem occupancy_of_no_mark {t : Trace} (h : t.mark = none) : occupancy t = unread t := by
  simp [occupancy, unread, anchor, h]

/-- An advance moves at most the unread records from unread to read (R147, R150). -/
theorem unread_advanceRead {n : Nat} {t : Trace} (hn : n ≤ unread t) : unread (advanceRead n t) = unread t - n := by
  have htail : (advanceRead n t).tail = t.tail ∧ (advanceRead n t).read = t.read + BitVec.ofNat 32 n := by
    unfold advanceRead
    split <;> exact ⟨rfl, rfl⟩
  simp only [unread, htail] at hn ⊢
  bv_omega

theorem traceSound_advanceRead {s : State} {n : Nat} (h : TraceSound s) (hn : n ≤ unread s.trace) :
    TraceSound { s with trace := advanceRead n s.trace } := by
  obtain ⟨bound, order, kept⟩ := h
  have hunread := unread_advanceRead hn
  cases hmark : s.trace.mark with
  | some m =>
    have hocc : occupancy (advanceRead n s.trace) = occupancy s.trace := by
      simp [advanceRead, hmark, occupancy, anchor]
    have hread : readKept (advanceRead n s.trace) = readKept s.trace + n := by
      simp only [advanceRead, hmark, readKept, anchor, Option.getD_some, ringSize, occupancy, unread] at *
      bv_omega
    refine ⟨by simpa only [hocc] using bound, ?_, ?_⟩
    · simp only [hread, hunread, hocc]
      omega
    · simpa [advanceRead, hmark, occupancy, anchor] using kept
  | none =>
    have hnone : (advanceRead n s.trace).mark = none := by simp [advanceRead, hmark]
    have hkept : (advanceRead n s.trace).kept = s.trace.kept.drop n := by simp [advanceRead, hmark]
    rw [occupancy_of_no_mark hmark] at bound kept
    refine ⟨?_, ?_, ?_⟩
    · simp only [occupancy_of_no_mark hnone, hunread]
      omega
    · simp only [occupancy_of_no_mark hnone, readKept_of_no_mark hnone, Nat.zero_add]
    · simp only [occupancy_of_no_mark hnone, hunread, hkept, List.length_drop, kept]

/-- The mark set to the read pointer or removed: the read records are released, the unread ones stay (R154). -/
theorem traceSound_releaseTo {s : State} {mark : Option (BitVec 32)} (h : TraceSound s)
    (hmark : mark.getD s.trace.read = s.trace.read) : TraceSound { s with trace := releaseTo mark s.trace } := by
  obtain ⟨bound, order, kept⟩ := h
  have hocc : occupancy (releaseTo mark s.trace) = unread s.trace := by
    simp [occupancy, unread, anchor, releaseTo, hmark]
  have hread : readKept (releaseTo mark s.trace) = 0 := by simp [readKept, anchor, releaseTo, hmark]
  have hkept : (releaseTo mark s.trace).kept.length = unread s.trace := by
    simp only [releaseTo, List.length_drop, kept]
    omega
  refine ⟨?_, ?_, by simp only [hocc, hkept]⟩
  · simp only [hocc]
    omega
  · simp only [hocc, hread, Nat.zero_add]
    rfl

/-- A rewind makes every held record unread again (R155). -/
theorem traceSound_rewind {s : State} {m : BitVec 32} (h : TraceSound s) (hmark : s.trace.mark = some m) :
    TraceSound { s with trace := { s.trace with read := m } } := by
  have hocc : occupancy { s.trace with read := m } = occupancy s.trace := by simp [occupancy, anchor, hmark]
  refine ⟨by simpa only [hocc] using h.bound, ?_, by simpa only [hocc] using h.kept⟩
  simp [readKept, unread, occupancy, anchor, hmark]

/-- A record joins a ring that is not full (R146 step 4, R148). -/
theorem traceSound_append {s : State} (x : TraceRecord) (h : TraceSound s) (hroom : occupancy s.trace < ringSize) :
    TraceSound { s with trace := { s.trace with tail := s.trace.tail + 1, kept := s.trace.kept ++ [x] } } := by
  obtain ⟨bound, order, kept⟩ := h
  have hocc : occupancy { s.trace with tail := s.trace.tail + 1, kept := s.trace.kept ++ [x] } =
      occupancy s.trace + 1 := by
    simp only [occupancy, anchor, ringSize] at *
    bv_omega
  have hunread : unread { s.trace with tail := s.trace.tail + 1, kept := s.trace.kept ++ [x] } =
      unread s.trace + 1 := by
    simp only [occupancy, readKept, unread, ringSize] at *
    bv_omega
  refine ⟨?_, ?_, ?_⟩
  · simp only [hocc]
    omega
  · simp only [hocc, hunread]
    exact (Nat.add_assoc _ _ _).symm.trans (congrArg (· + 1) order)
  · simp only [hocc, List.length_append, List.length_singleton, kept]

/-- Sequence number and gate state stand beside the ring's positions (R142, R145). -/
theorem traceSound_of_ring {s t : State} (h : TraceSound s) (htail : t.trace.tail = s.trace.tail)
    (hread : t.trace.read = s.trace.read) (hmark : t.trace.mark = s.trace.mark)
    (hkept : t.trace.kept = s.trace.kept) : TraceSound t := by
  obtain ⟨bound, order, kept⟩ := h
  constructor <;> simpa only [occupancy, readKept, unread, anchor, htail, hread, hmark, hkept]

theorem traceSound_of_cleared {t : State} (u : Trace) (ht : t.trace = clearedTrace u) : TraceSound t := by
  constructor <;> simp [ht, clearedTrace, occupancy, readKept, unread, anchor]

/-! ## Streaming -/

theorem traceSound_streamOne {s : State} (h : TraceSound s) : TraceSound (streamOne s) :=
  traceSound_of_trace (traceSound_advanceRead h (min_le_right 2 _)) rfl

theorem traceSound_streamUpTo {s : State} (k : Nat) (h : TraceSound s) : TraceSound (streamUpTo k s) := by
  induction k generalizing s with
  | zero => exact h
  | succ k ih =>
    unfold streamUpTo
    split <;> [exact ih (traceSound_streamOne h); exact h]

theorem traceSound_burst {s : State} (h : TraceSound s) : TraceSound (burst s) := by
  unfold burst
  split <;> [exact traceSound_streamUpTo 32 h; exact h]

theorem traceSound_streamTick {s : State} (h : TraceSound s) : TraceSound (streamTick s) := by
  unfold streamTick
  split <;> [exact traceSound_streamUpTo _ h; exact h]

theorem traceSound_deliverTick {s : State} (h : TraceSound s) : TraceSound (deliverTick s) :=
  traceSound_streamTick (traceSound_of_trace h (by simp))

theorem traceSound_outputTick {s : State} (h : TraceSound s) : TraceSound (outputTick s) := by
  unfold outputTick
  split <;> [exact traceSound_deliverTick (traceSound_of_trace h rfl); exact h]

theorem traceSound_takeSync {s : State} (h : TraceSound s) : TraceSound (takeSync s) := by
  unfold takeSync
  split <;> [exact h; skip; skip] <;> exact traceSound_deliverTick (traceSound_of_trace h rfl)

theorem traceSound_syncTimeout {s : State} (h : TraceSound s) : TraceSound (syncTimeout s) := by
  unfold syncTimeout
  dsimp only
  split <;> [skip; exact h]
  have entered : TraceSound { markTick s with tick := { (markTick s).tick with mode := .fallback } } :=
    traceSound_of_trace h rfl
  exact traceSound_of_trace (t := latchHere .syncLost none (deliverTick _)) (traceSound_deliverTick entered) (by simp)

/-! ## Crossings, lines and edges -/

/-- A crossing appends a record only to a ring with room for it (R146, R148). -/
theorem traceSound_crossing {s : State} (recut : Bool) (c : Nat) (h : TraceSound s) :
    TraceSound (crossing recut c s) := by
  have numbered : TraceSound { s with trace := { s.trace with seqNo := s.trace.seqNo + 1 } } :=
    traceSound_of_ring h rfl rfl rfl rfl
  have stored {t : State} (q : BitVec 32) (ht : TraceSound t) (hroom : occupancy t.trace < ringSize) :
      TraceSound (storeRecord c recut q t) :=
    traceSound_append _ (traceSound_of_trace (t := noteTarget c t) ht (by simp)) (by simpa using hroom)
  unfold crossing
  dsimp only
  split <;> [split; exact h]
  · exact traceSound_of_trace numbered (by simp)
  · rename_i hroom
    exact traceSound_burst (traceSound_of_trace (stored s.trace.seqNo numbered (not_le.1 hroom)) (by simp))

theorem traceSound_crossBoundaries {s : State} (n : Nat) (h : TraceSound s) : TraceSound (crossBoundaries n s) := by
  have folded (l : List Nat) : ∀ t : State, TraceSound t →
      TraceSound (l.foldl (fun t beta => crossing (beta ≤ s.chain.h) beta t) t) := by
    induction l with
    | nil => exact fun t ht => ht
    | cons beta l ih => exact fun t ht => ih _ (traceSound_crossing _ _ ht)
  exact folded _ s h

theorem traceSound_odoEdge {s : State} (w : Bool) (h : TraceSound s) : TraceSound (odoEdge w s) := by
  have moved : TraceSound (checkTakeover (moveEdge w s)) := traceSound_of_trace h (by simp)
  have counted : TraceSound (countEdge w s) := by
    unfold countEdge
    dsimp only
    split
    · exact traceSound_of_trace (traceSound_crossBoundaries s.chain.n moved) (by simp)
    · exact traceSound_of_trace moved (by simp)
  unfold odoEdge
  split <;> [exact traceSound_of_trace counted (by simp); exact traceSound_of_trace h (by simp)]

theorem traceSound_acceptLine {s : State} (l : Line) (h : TraceSound s) : TraceSound (acceptLine l s) := by
  have hl : TraceSound (setLine l { lineOf s l with active := !(lineOf s l).active, since := none } s) :=
    traceSound_of_trace h rfl
  unfold acceptLine
  cases l with
  | odo => dsimp only; split <;> [exact traceSound_odoEdge _ hl; exact hl]
  | dir | dig => exact hl
  | stop => dsimp only; split <;> [exact hl; exact traceSound_of_trace hl (by simp)]

theorem traceSound_filterExpiry {s : State} (l : Line) (h : TraceSound s) : TraceSound (filterExpiry l s) := by
  unfold filterExpiry
  split <;> [exact traceSound_acceptLine l h; exact h]

theorem traceSound_startCandidate {s : State} (l : Line) (h : TraceSound s) : TraceSound (startCandidate l s) := by
  have set (f : LineFilter) : TraceSound (setLine l f s) := traceSound_of_trace h rfl
  unfold startCandidate
  dsimp only
  split <;> [split; exact h] <;> [exact traceSound_acceptLine l (set _); exact set _]

theorem traceSound_lineLevelChange {s : State} (l : Line) (high : Bool) (h : TraceSound s) :
    TraceSound (lineLevelChange l high s) := by
  have set (f : LineFilter) : TraceSound (setLine l f s) := traceSound_of_trace h rfl
  unfold lineLevelChange
  dsimp only
  split <;> [exact set _; exact traceSound_startCandidate l (set _)]

/-! ## Parameters, runs and resets -/

theorem trace_modeEffects (s : State) :
    (∀ old, (depthModeEffect old s).trace = s.trace) ∧ (∀ old, (travelModeEffect old s).trace = s.trace) ∧
    (∀ old, (tickSourceEffect old s).trace = s.trace) ∧ (tickEffect s).trace = s.trace := by
  refine ⟨fun old => ?_, fun old => ?_, fun old => ?_, ?_⟩
  · unfold depthModeEffect
    split <;> [split; skip] <;> simp
  · unfold travelModeEffect
    split <;> simp
  · unfold tickSourceEffect
    split <;> rfl
  · unfold tickEffect
    dsimp only
    split <;> rfl

theorem trace_expireAll (s : State) : (expireAll s).trace = s.trace := by
  rw [expireAll_eq]
  split <;> simp [expireBeams]

/-- A write of P_ODO_FILT may take an edge, one of P_STREAM may stream, one of P_SYNC_TMO may tick; the other effects
leave the trace alone (R178). -/
theorem traceSound_paramEffect {s : State} (id : Nat) (old : Params) (h : TraceSound s) :
    TraceSound (paramEffect id old s) := by
  obtain ⟨hdepth, htravel, hsource, htick⟩ := trace_modeEffects s
  unfold paramEffect
  split
  case h_2 => exact traceSound_of_trace h (trace_expireAll s)
  case h_4 | h_5 | h_6 | h_7 => exact traceSound_filterExpiry _ h
  case h_9 => exact traceSound_of_trace h htick
  case h_10 => exact traceSound_of_trace h (hsource _)
  case h_11 => exact traceSound_syncTimeout h
  case h_12 => exact traceSound_of_trace h (hdepth _)
  case h_13 => exact traceSound_of_trace h (htravel _)
  case h_15 => exact traceSound_burst h
  case h_8 | h_14 => exact traceSound_of_trace h rfl
  all_goals exact traceSound_of_trace h (by simp)

theorem traceSound_paramWrite {s : State} (body : List Byte) (h : TraceSound s) :
    TraceSound (paramWrite body s).state := by
  obtain hs | ⟨id, v, hs⟩ := paramWrite_state body s <;> rw [hs] <;> [exact h; skip]
  exact traceSound_paramEffect id s.params (traceSound_of_trace h rfl)

/-- OPEN_RUN numbers the records anew, and with the discard flag clears the trace (R156). -/
theorem traceSound_openRunRequest {s : State} (body : List Byte) (h : TraceSound s) :
    TraceSound (openRunRequest body s).state := by
  obtain hr | ⟨start, g, discard, -, -, -, hr⟩ := openRunRequest_state body s <;> rw [hr] <;> [exact h; skip]
  have htrace : (openRun start g discard s).trace =
      if discard then clearedTrace s.trace else { s.trace with seqNo := 0 } := by simp [openRun]
  cases discard with
  | true => exact traceSound_of_cleared s.trace htrace
  | false => exact traceSound_of_ring h (by simp [htrace]) (by simp [htrace]) (by simp [htrace]) (by simp [htrace])

theorem traceSound_clearRun (s : State) : TraceSound (clearRun s) := by
  rw [clearRun_eq]
  exact traceSound_of_cleared (closeRunningTest .request s).trace rfl

theorem traceSound_masterReset (s : State) : TraceSound (masterReset s) := by
  rw [masterReset_eq]
  exact traceSound_of_cleared resetTrace rfl

theorem traceSound_powerOn (straps : BitVec 3) (s : State) : TraceSound (powerOn straps s) := by
  rw [powerOn_eq]
  exact traceSound_of_cleared resetTrace rfl

theorem traceSound_departU {s : State} (h : TraceSound s) : TraceSound (departU s) := by
  unfold departU afterDeparture
  split <;> [exact h; split] <;> [exact traceSound_masterReset _; exact traceSound_burst (traceSound_of_trace h rfl)]

/-! ## Requests on the trace -/

theorem traceSound_traceRead {s : State} (h : TraceSound s) : TraceSound (traceRead s).state := by
  unfold traceRead
  split <;> [exact h; exact traceSound_advanceRead h (min_le_right 2 _)]

theorem traceSound_traceMark {s : State} (h : TraceSound s) : TraceSound (traceMark s).state :=
  traceSound_burst (traceSound_releaseTo h rfl)

theorem traceSound_traceUnmark {s : State} (h : TraceSound s) : TraceSound (traceUnmark s).state :=
  traceSound_burst (traceSound_releaseTo h rfl)

theorem traceSound_traceRewind {s : State} (h : TraceSound s) : TraceSound (traceRewind s).state := by
  unfold traceRewind
  split
  · exact h
  · rename_i m hmark
    exact traceSound_burst (traceSound_rewind h hmark)

theorem traceSound_traceGate {s : State} (body : List Byte) (h : TraceSound s) :
    TraceSound (traceGate body s).state := by
  have gated (b : Bool) : TraceSound (setGate b s) := traceSound_of_ring h rfl rfl rfl rfl
  unfold traceGate
  split <;> [exact gated _; exact gated _; exact h]

/-! ## Frames and requests that leave the trace alone -/

theorem trace_handleKind (c : BeamCode) (kind : StrikeKind) (s : State) : (handleKind c kind s).2.trace = s.trace := by
  unfold handleKind failWindow
  cases kind with
  | single p => dsimp only; split <;> [skip; split] <;> simp
  | edgeHigh | edgeLow | multi => simp

theorem trace_takeStrike (f : Arrival) (s : State) : (takeStrike f s).trace = s.trace := by
  unfold takeStrike
  split <;> simp [handleStrike, trace_handleKind]

theorem trace_takeTiltFrame (f : Arrival) (s : State) : (takeTiltFrame f s).trace = s.trace := by
  unfold takeTiltFrame
  split <;> simp

theorem trace_takeManual (f : Arrival) (s : State) : (takeManual f s).trace = s.trace := by
  unfold takeManual gateManual override
  repeat' split
  all_goals simp

theorem trace_passUnclassified (p : Port) (f : CanFrame) (s : State) : (passUnclassified p f s).trace = s.trace := by
  unfold passUnclassified
  split <;> simp

theorem trace_paramRead (body : List Byte) (s : State) : (paramRead body s).state.trace = s.trace := by
  unfold paramRead
  dsimp only
  split <;> rfl

theorem trace_loadBegin (body : List Byte) (s : State) : (loadBegin body s).state.trace = s.trace := by
  unfold loadBegin
  repeat' split
  all_goals rfl

theorem trace_loadEntry (sn : Session) (body : List Byte) (s : State) :
    (loadEntry sn body s).state.trace = s.trace := by
  unfold loadEntry
  repeat' split
  all_goals rfl

theorem trace_loadCommit (body : List Byte) (s : State) : (loadCommit body s).state.trace = s.trace := by
  have profile (n : Nat) : (commitProfile n s).trace = s.trace := by
    unfold commitProfile
    dsimp only
    split <;> simp
  unfold loadCommit
  split <;> [skip; rfl]
  unfold commitSession
  split <;> [rfl; skip]
  split <;> [rfl; skip]
  split <;> [rfl; skip]
  split
  · exact profile _
  all_goals split <;> rfl

theorem trace_loadCancel (body : List Byte) (s : State) : (loadCancel body s).state.trace = s.trace := by
  unfold loadCancel cancelKind
  repeat' split
  all_goals rfl

theorem trace_readEntry (body : List Byte) (s : State) : (readEntry body s).state.trace = s.trace := by
  unfold readEntry readProfile readTiltEntry readPoint
  dsimp only
  repeat' split
  all_goals rfl

theorem trace_closeRun (s : State) : (closeRun s).state.trace = s.trace := by
  unfold closeRun
  split <;> simp [done, refuse]

theorem trace_bench (body : List Byte) (s : State) : (bench body s).state.trace = s.trace := by
  obtain hb | ⟨-, c, d, hb⟩ := bench_state body s <;> rw [hb]
  obtain hf | hf | ⟨v, hf | hf⟩ := finishBench_state c d s <;> rw [hf] <;> simp [benchBeam]

theorem trace_setDepthRequest (body : List Byte) (s : State) : (setDepthRequest body s).state.trace = s.trace := by
  unfold setDepthRequest setDepth
  repeat' split
  all_goals rfl

theorem trace_takeModeAuto (body : List Byte) (s : State) : (takeModeAuto body s).state.trace = s.trace := by
  unfold takeModeAuto setModeAuto
  split <;> [split; skip] <;> rfl

theorem trace_takeModeManual (body : List Byte) (s : State) : (takeModeManual body s).state.trace = s.trace := by
  unfold takeModeManual setModeManual
  split <;> [split; skip] <;> simp [done, refuse]

theorem trace_resume (s : State) : (resume s).state.trace = s.trace := by
  unfold resume
  split <;> rfl

theorem trace_clearTrip (s : State) : (clearTrip s).state.trace = s.trace := by
  unfold clearTrip
  split <;> simp [done, refuse]

theorem trace_handover (body : List Byte) (s : State) : (handover body s).state.trace = s.trace := by
  unfold handover
  repeat' split
  all_goals simp [done, refuse, handoverTo]

theorem trace_adopt (body : List Byte) (s : State) : (adopt body s).state.trace = s.trace := by
  unfold adopt adoptBeam
  repeat' split
  all_goals rfl

theorem trace_testStart (body : List Byte) (s : State) : (testStart body s).state.trace = s.trace := by
  unfold testStart
  repeat' split
  all_goals simp [done, refuse, startTest]

theorem trace_testAbort (s : State) : (testAbort s).state.trace = s.trace := by
  unfold testAbort
  split <;> simp [done, refuse]

theorem trace_testApply (s : State) : (testApply s).state.trace = s.trace := by
  obtain hs | ⟨d, i, m, -, -, -, hs⟩ := testApply_state s <;> rw [hs]
  rfl

theorem trace_fwdWrite (body : List Byte) (s : State) : (fwdWrite body s).state.trace = s.trace := by
  unfold fwdWrite writeFwd
  repeat' split
  all_goals rfl

theorem trace_fwdRead (body : List Byte) (s : State) : (fwdRead body s).state.trace = s.trace := by
  unfold fwdRead
  dsimp only
  split <;> rfl

theorem trace_maskWrite (body : List Byte) (s : State) : (maskWrite body s).state.trace = s.trace := by
  unfold maskWrite writeMask
  repeat' split
  all_goals rfl

theorem trace_snapshot (s : State) : (snapshot s).state.trace = s.trace := by
  show (noteTarget s.chain.s s).trace = s.trace
  simp

/-! ## The step -/

/-- A request keeps the ring where its rule does (R175). -/
theorem traceSound_answerRequest {code : Byte} {n : Nat} {r : Request} {act : List Byte → State → Answer}
    {s : State} (h : TraceSound s) (hact : ∀ body t, TraceSound t → TraceSound (act body t).state) :
    TraceSound (answerRequest code n r act s) :=
  answerRequest_keeps traceSound_besideQueues hact h

/-- A request whose rule leaves the trace alone keeps the ring. -/
theorem traceSound_quietRequest {code : Byte} {n : Nat} {r : Request} {act : List Byte → State → Answer} {s : State}
    (h : TraceSound s) (hact : ∀ body t, (act body t).state.trace = t.trace) :
    TraceSound (answerRequest code n r act s) :=
  traceSound_answerRequest h fun body t ht => traceSound_of_trace ht (hact body t)

theorem traceSound_takeLoadEntry {s : State} (r : Request) (h : TraceSound s) : TraceSound (takeLoadEntry r s) := by
  unfold takeLoadEntry
  split
  · exact refusal_keeps traceSound_besideQueues codeLoadEntry r .sequence h
  · exact traceSound_quietRequest h (trace_loadEntry _)

theorem traceSound_exec {s : State} (c : Instr) (h : TraceSound s) : Yields TraceSound (exec c s) := by
  have beside := traceSound_besideQueues
  cases c with
  | powerOn straps => exact traceSound_powerOn straps s
  | strike f => exact traceSound_of_trace h (trace_takeStrike f s)
  | tilt f => exact traceSound_of_trace h (trace_takeTiltFrame f s)
  | sync f => exact traceSound_takeSync (s := forwardTaken .d clsSync f s) (traceSound_of_trace h (by simp))
  | manualValve f => exact traceSound_of_trace h (trace_takeManual f s)
  | forwardedFrame p id format data => exact traceSound_of_trace (t := forwardByTable p id _ s) h (by simp)
  | unclassifiedFrame p f => exact traceSound_of_trace h (trace_passUnclassified p f s)
  | mgmtReqShortHeader prio src tag format byte => exact traceSound_of_trace (t := dropMalformed s) h (by simp)
  | unknownRequest code r => exact refusal_keeps beside code r .unknown h
  | identify broadcast r => exact identify_keeps beside broadcast r h
  | snapshot r => exact traceSound_quietRequest h fun _ => trace_snapshot
  | reset r => exact takeReset_keeps beside traceSound_masterReset r h
  | clearRun r => exact traceSound_answerRequest h fun _ t _ => traceSound_clearRun t
  | paramRead r => exact traceSound_quietRequest h trace_paramRead
  | paramWrite r => exact traceSound_answerRequest h fun body _ ht => traceSound_paramWrite body ht
  | loadBegin r => exact traceSound_quietRequest h trace_loadBegin
  | loadEntry r => exact traceSound_takeLoadEntry r h
  | loadCommit r => exact traceSound_quietRequest h trace_loadCommit
  | loadCancel r => exact traceSound_quietRequest h trace_loadCancel
  | readEntry r => exact traceSound_quietRequest h trace_readEntry
  | openRun r => exact traceSound_answerRequest h fun body _ ht => traceSound_openRunRequest body ht
  | closeRun r => exact traceSound_quietRequest h fun _ => trace_closeRun
  | bench r => exact traceSound_quietRequest h trace_bench
  | setDepth r => exact traceSound_quietRequest h trace_setDepthRequest
  | setModeAuto r => exact traceSound_quietRequest h trace_takeModeAuto
  | setModeManual r => exact traceSound_quietRequest h trace_takeModeManual
  | resume r => exact traceSound_quietRequest h fun _ => trace_resume
  | clearTrip r => exact traceSound_quietRequest h fun _ => trace_clearTrip
  | handover r => exact traceSound_quietRequest h trace_handover
  | adopt r => exact traceSound_quietRequest h trace_adopt
  | testStart r => exact traceSound_quietRequest h trace_testStart
  | testAbort r => exact traceSound_quietRequest h fun _ => trace_testAbort
  | testResult r => exact traceSound_quietRequest h fun _ _ => rfl
  | testApply r => exact traceSound_quietRequest h fun _ => trace_testApply
  | fwdWrite r => exact traceSound_quietRequest h trace_fwdWrite
  | fwdRead r => exact traceSound_quietRequest h trace_fwdRead
  | traceRead r => exact traceSound_answerRequest h fun _ _ ht => traceSound_traceRead ht
  | traceMark r => exact traceSound_answerRequest h fun _ _ ht => traceSound_traceMark ht
  | traceUnmark r => exact traceSound_answerRequest h fun _ _ ht => traceSound_traceUnmark ht
  | traceRewind r => exact traceSound_answerRequest h fun _ _ ht => traceSound_traceRewind ht
  | traceGate r => exact traceSound_answerRequest h fun body _ ht => traceSound_traceGate body ht
  | eventRead r => exact traceSound_quietRequest h fun _ _ => rfl
  | maskWrite r => exact traceSound_quietRequest h trace_maskWrite
  | countersRead r => exact traceSound_quietRequest h fun _ _ => rfl
  | countersClear r => exact traceSound_quietRequest h fun _ _ => rfl
  | portUFrameDeparture => exact traceSound_departU h
  | arbiterTakesFrame => exact traceSound_of_trace (t := { s with portD := arbiterTakes s.portD }) h rfl
  | lineLevelChange l high => exact traceSound_lineLevelChange l high h
  | acceptedOdoEdge => exact traceSound_filterExpiry .odo h
  | acceptedDirChange => exact traceSound_filterExpiry .dir h
  | acceptedDigChange => exact traceSound_filterExpiry .dig h
  | stopAcceptedActive =>
    show TraceSound (if s.lines.stop.active then s else filterExpiry .stop s)
    split <;> [exact h; exact traceSound_filterExpiry .stop h]
  | stopRelease =>
    show TraceSound (if s.lines.stop.active then filterExpiry .stop s else s)
    split <;> [exact traceSound_filterExpiry .stop h; exact h]
  | strikeTimeout c => exact traceSound_of_trace (t := strikeTimeout c s) h (by simp)
  | referenceTimeout => exact traceSound_of_trace (t := referenceTimeout s) h (by simp)
  | fadingTimeout => exact traceSound_of_trace (t := fadingTimeout s) h (by simp)
  | tiltExpiry => exact traceSound_of_trace (t := tiltExpiry s) h (by simp)
  | outputTick => exact traceSound_outputTick h
  | syncTimeout => exact traceSound_syncTimeout h
  | holdDistanceExpiry =>
    show TraceSound (if holdDistanceDue s then filterExpiry .odo s else s)
    split <;> [exact traceSound_filterExpiry .odo h; exact h]
  | dwellClearMoment => exact traceSound_of_trace (t := firstStep s) h (by simp)
  | stepTimerExpiry => exact traceSound_of_trace (t := stepTimerExpiry s) h (by simp)
  | noBeamTimeout => exact traceSound_of_trace (t := noBeamTimeout s) h (by simp)

end Sys2Proof.Machine

namespace Sys2Proof.Scope

open Machine

/-- Settles O12: every command keeps the ring, and neither the queue nor the clock touches it. -/
theorem stepKeepsTraceRing : Obligations.StepKeepsTraceRing := fun _ _ h hst =>
  step_keeps (fun c _ hs => traceSound_exec c hs) (fun _ _ _ _ hs => traceSound_of_trace hs rfl) h hst

end Sys2Proof.Scope
end

section
/-! The as-cut trace: a boundary crossing (R142 to R149, R151, R152; log 11, log 39). -/

namespace Sys2Proof.Machine

/-! ## BURST streaming -/

theorem burst_of_ne {s : State} (h : s.params.stream ≠ .burst) : burst s = s := if_neg h

theorem burst_of_not_mayStream {s : State} (h : ¬ mayStream s) : burst s = s := by
  unfold burst
  split <;> [exact streamUpTo_of_not_mayStream 32 h; rfl]

/-- Each TRACE_DATA frame takes an entry of the queue, so one more than the entries that may be taken sends nothing
(R151). -/
theorem streamUpTo_succ_of_full {s : State} (k : Nat) (h : 24 < s.portU.queue.length + k) :
    streamUpTo (k + 1) s = streamUpTo k s := by
  induction k generalizing s with
  | zero =>
    have hfull : ¬ mayStream s := fun hm => by
      have := hm.2
      omega
    exact streamUpTo_of_not_mayStream 1 hfull
  | succ k ih =>
    by_cases hm : mayStream s
    · have hlonger : 24 < (recordsSent s).portU.queue.length + k := by
        simp only [recordsSent, List.length_append, List.length_singleton]
        omega
      rw [streamUpTo_succ_of_mayStream _ hm, streamUpTo_succ_of_mayStream _ hm, ih hlonger]
    · rw [streamUpTo_of_not_mayStream _ hm, streamUpTo_of_not_mayStream _ hm]

/-- BURST streaming sends a frame and goes on from there (R152). -/
theorem burst_of_mayStream {s : State} (hb : s.params.stream = .burst) (hm : mayStream s) :
    burst s = burst (recordsSent s) := by
  have hroom : 24 < (recordsSent s).portU.queue.length + 31 := by
    simp only [recordsSent, List.length_append, List.length_singleton]
    omega
  rw [burst, if_pos hb, burst, if_pos (show (recordsSent s).params.stream = .burst from hb),
    streamUpTo_succ_of_mayStream 31 hm, streamUpTo_succ_of_full 31 hroom]

/-! ## The crossing -/

theorem gateIsOpen_iff (s : State) : gateIsOpen s = true ↔ (s.params.traceGate = .line ∧ s.lines.dig.active = true) ∨
    (s.params.traceGate = .software ∧ s.trace.gateOpen = true) := by
  unfold gateIsOpen
  cases s.params.traceGate <;> simp

/-- The flags of a record, each as R143 gives it (log 39). -/
theorem recordFlags_eq (recut : Bool) (s : State) : recordFlags recut s =
    ⟨recut, s.ctl.offColumn, s.ctl.state = .hold ∨ s.ctl.state = .suspended, s.ctl.state = .manual,
      !s.tilt.fresh, s.travel.last.any (fun v => v.limit < 10000)⟩ := by
  unfold recordFlags
  rw [Bool.decide_or]
  cases s.travel.last <;> rfl

/-- The measurement of a record is the measured depth while it is fresh (R142). -/
theorem recordMeasurement_eq (s : State) :
    recordMeasurement s = (measured s).filter (fun m => freshBeam (beam s m.2) s) := by
  unfold recordMeasurement
  cases measured s <;> rfl

/-- A latch writes to the latches, the Port U queue and the counters alone. -/
theorem latch_eq_with (e : Event) (b : Option BeamCode) (c : Nat) (s : State) : latch e b c s =
    { s with events := (latch e b c s).events, portU := (latch e b c s).portU, counters := (latch e b c s).counters } :=
  latch_congr e b c rfl rfl rfl rfl rfl

/-- A record reads nothing of what the noting of its target writes (R144). -/
theorem formRecord_noteTarget (c : Nat) (recut : Bool) (q : BitVec 32) (s : State) :
    formRecord c recut q (noteTarget c s) = formRecord c recut q s := by
  unfold noteTarget
  split <;> [rw [latch_eq_with]; skip] <;> rfl

theorem formRecord_eq {c : Nat} {s : State} {target : Int} (recut : Bool) (q : BitVec 32)
    (h : targetAt s.store.active c = some target) : formRecord c recut q s =
      ⟨q, s.run.number, c, s.run.dSet + target, (measured s).filter (fun m => freshBeam (beam s m.2) s), s.ctl.state,
        ⟨recut, s.ctl.offColumn, s.ctl.state = .hold ∨ s.ctl.state = .suspended, s.ctl.state = .manual,
          !s.tilt.fresh, s.travel.last.any (fun v => v.limit < 10000)⟩⟩ := by
  rw [formRecord, h, recordMeasurement_eq, recordFlags_eq]
  rfl

/-- The state in which a crossing forms its record: the sequence number moved on (R142). -/
def numbered (s : State) : State := { s with trace := { s.trace with seqNo := s.trace.seqNo + 1 } }

theorem crossing_of_closed {s : State} (recut : Bool) (c : Nat) (h : ¬ gateIsOpen s = true) : crossing recut c s = s :=
  if_neg h

theorem crossing_of_full {s : State} (recut : Bool) (c : Nat) (hg : gateIsOpen s = true)
    (h : ringSize ≤ occupancy s.trace) :
    crossing recut c s = latch .traceOverrun none c (count .traceDropped 1 (numbered s)) := by
  have hfull : ringSize ≤ occupancy (numbered s).trace := h
  rw [crossing, if_pos hg]
  exact if_pos hfull

theorem crossing_of_room {s : State} (recut : Bool) (c : Nat) (hg : gateIsOpen s = true)
    (h : occupancy s.trace < ringSize) :
    crossing recut c s = burst (checkWatermark c (storeRecord c recut s.trace.seqNo (numbered s))) := by
  have hroom : ¬ ringSize ≤ occupancy (numbered s).trace := not_le.2 h
  rw [crossing, if_pos hg]
  exact if_neg hroom

/-- A record stored, with the target it reads noted first (R144, R146 step 4). -/
theorem storeRecord_eq (c : Nat) (recut : Bool) (q : BitVec 32) (s : State) : storeRecord c recut q s =
    { noteTarget c s with trace := { s.trace with
      tail := s.trace.tail + 1, kept := s.trace.kept ++ [formRecord c recut q s] } } := by
  have htrace : (noteTarget c s).trace = s.trace := by simp
  rw [storeRecord, formRecord_noteTarget, htrace]

/-- The watermark is judged on what the ring holds, against P_TRACE_HIGH (R149). -/
theorem checkWatermark_of_params {s : State} {p : Params} (c : Nat) (h : s.params = p) : checkWatermark c s =
    if occupancy s.trace = p.traceHigh then latch .traceHigh none c s else s := by
  rw [checkWatermark, h]

end Sys2Proof.Machine

namespace Sys2Proof.Scope

open Machine

/-- Settles O41: a crossing by gate and room, and the streaming frame by frame. -/
theorem traceCrossing : Obligations.TraceCrossing := by
  refine ⟨fun recut beta s => ?_, fun s => ⟨fun h => h.elim burst_of_ne burst_of_not_mayStream, burst_of_mayStream⟩⟩
  intro gate held u
  have hgate : gateIsOpen s = true ↔ gate := gateIsOpen_iff s
  refine ⟨fun hg => crossing_of_closed recut beta (mt hgate.1 hg),
    fun hg hfull => crossing_of_full recut beta (hgate.2 hg) hfull, fun target hg hroom htarget => ?_⟩
  rw [crossing_of_room recut beta (hgate.2 hg) hroom, storeRecord_eq,
    formRecord_eq (s := numbered s) recut s.trace.seqNo htarget,
    checkWatermark_of_params (p := s.params) beta (by simp [numbered])]
  rfl

end Sys2Proof.Scope
end

section
/-! The requests on the trace: TRACE_READ, TRACE_MARK, TRACE_UNMARK, TRACE_REWIND and TRACE_GATE (R145, R150, R152,
R154, R155; log 13). -/

namespace Sys2Proof.Machine

theorem advanceRead_eq (n : Nat) (t : Trace) : advanceRead n t =
    { t with read := t.read + BitVec.ofNat 32 n, kept := if t.mark = none then t.kept.drop n else t.kept } := by
  unfold advanceRead
  cases t.mark <;> rfl

theorem traceRead_of_none {s : State} (h : unread s.trace = 0) : traceRead s = refuse .noData s := if_pos h

/-- The records at the read pointer, with the counts after the advance past them (R150). -/
theorem traceRead_of_some {s : State} (h : unread s.trace ≠ 0) : traceRead s =
    (let records := nextRecords s.trace
     let u : State := { s with trace := advanceRead (min 2 (unread s.trace)) s.trace }
     ⟨.ok, [byte records.length] ++ traceCounts u ++ (records.map recordBytes).flatten, u⟩) := if_neg h

theorem traceRewind_of_no_mark {s : State} (h : s.trace.mark = none) : traceRewind s = refuse .state s := by
  simp only [traceRewind, h]

/-- The trace replaced and streamed from, and the counts after it (R152; log 13). -/
def traceReplaced (x : Trace) (s : State) : Answer :=
  ⟨.ok, traceCounts (burst { s with trace := x }), burst { s with trace := x }⟩

theorem traceMark_eq (s : State) : traceMark s = traceReplaced
    { s.trace with mark := some s.trace.read, kept := s.trace.kept.drop (readKept s.trace) } s := rfl

theorem traceUnmark_eq (s : State) : traceUnmark s = traceReplaced
    { s.trace with mark := none, kept := s.trace.kept.drop (readKept s.trace) } s := rfl

theorem traceRewind_of_mark {s : State} {m : BitVec 32} (h : s.trace.mark = some m) :
    traceRewind s = traceReplaced { s.trace with read := m } s := by
  simp only [traceRewind, h]
  rfl

/-- TRACE_GATE takes 0 and 1 (R145). -/
theorem traceGate_eq (b : Byte) (s : State) : traceGate [b] s =
    if b = 0 ∨ b = 1 then ⟨.ok, [], { s with trace := { s.trace with gateOpen := b = 1 } }⟩ else refuse .range s := by
  unfold traceGate
  rw [List.getD_cons_zero]
  split
  · rename_i h
    obtain rfl : b = 0 := BitVec.eq_of_toNat_eq h
    rfl
  · rename_i h
    obtain rfl : b = 1 := BitVec.eq_of_toNat_eq h
    rfl
  · rename_i h0 h1
    have hb : ¬ (b = 0 ∨ b = 1) := by
      rintro (rfl | rfl)
      · exact h0 rfl
      · exact h1 rfl
    rw [if_neg hb]

end Sys2Proof.Machine

namespace Sys2Proof.Scope

open Machine

/-- Settles O59: each request by its rule, on a state whose trace is the one before the request's forwarding. -/
theorem traceRequests : Obligations.TraceRequests := by
  intro r s unread held counts before k records replaced
  have onTrace {code : Byte} {body : List Byte} (n : Nat) {act : List Byte → State → Answer} {f : State → Answer}
      (hbody : Carries r body) (hn : body.length = n) (h : ∀ t, t.trace = s.trace → act body t = f t) :
      Host.Outcome.next (answerRequest code n r act s) = answered code r s f :=
    (next_answerRequest n hbody hn).trans
      (answered_ext fun t ⟨_, _, _, _, _, _, _, _, _, _, _, _, _, _, htrace, _⟩ => h t htrace)
  refine ⟨fun hbody => ⟨?_, ?_, ?_, fun hmark => ?_, fun m hmark => ?_⟩, fun b hbody => ?_⟩
  · have run : exec (.traceRead r) s = .next (answerRequest codeTraceRead 0 r (fun _ => traceRead) s) := rfl
    refine run.trans (onTrace 0 hbody rfl fun t ht => ?_)
    split
    · rename_i h
      exact traceRead_of_none (by rwa [ht])
    · rename_i h
      rw [traceRead_of_some (by rwa [ht]), advanceRead_eq, ht]
      rfl
  · have run : exec (.traceMark r) s = .next (answerRequest codeTraceMark 0 r (fun _ => traceMark) s) := rfl
    refine run.trans (onTrace 0 hbody rfl fun t ht => ?_)
    rw [traceMark_eq, ht]
    rfl
  · have run : exec (.traceUnmark r) s = .next (answerRequest codeTraceUnmark 0 r (fun _ => traceUnmark) s) := rfl
    refine run.trans (onTrace 0 hbody rfl fun t ht => ?_)
    rw [traceUnmark_eq, ht]
    rfl
  · have run : exec (.traceRewind r) s = .next (answerRequest codeTraceRewind 0 r (fun _ => traceRewind) s) := rfl
    exact run.trans (onTrace 0 hbody rfl fun t ht => traceRewind_of_no_mark (by rwa [ht]))
  · have run : exec (.traceRewind r) s = .next (answerRequest codeTraceRewind 0 r (fun _ => traceRewind) s) := rfl
    refine run.trans (onTrace 0 hbody rfl fun t ht => ?_)
    rw [traceRewind_of_mark (m := m) (by rwa [ht]), ht]
    rfl
  · have run : exec (.traceGate r) s = .next (answerRequest codeTraceGate 1 r traceGate s) := rfl
    refine run.trans (onTrace 1 hbody rfl fun t ht => ?_)
    rw [traceGate_eq, ht]

end Sys2Proof.Scope
end

section
/-! The frame path: queues and the forwarding table (R159, R163 to R166, R169, R170; log 8), the reply (R175, R194), the
MANUAL_VALVE gate (R89, R90, R167), and the requests on the table, the mask, the latches and the counters (R165, R188,
R190; log 15). -/

namespace Sys2Proof.Machine

/-! ## The queues -/

/-- A frame forwarded to Port D waits behind at most 15 others (R169). -/
theorem forwardToD_of_room {f : CanFrame} {s : State} (h : s.portD.queue.length < 16) :
    forwardToD f s = { s with portD := { s.portD with queue := s.portD.queue ++ [f] } } :=
  if_pos (decide_eq_true h)

theorem forwardToD_of_full {f : CanFrame} {s : State} (h : ¬ s.portD.queue.length < 16) :
    forwardToD f s = latch .forwardDrop none s.chain.s { s with counters := { s.counters with
      fwdDropUD := min 65535 (s.counters.fwdDropUD + 1) } } :=
  if_neg (by simpa [roomD] using h)

/-- A frame forwarded to Port U waits behind at most 31 others (R170). -/
theorem forwardToU_of_room {f : CanFrame} {s : State} (h : s.portU.queue.length < 32) :
    forwardToU f s = { s with portU := { s.portU with queue := s.portU.queue ++ [⟨f, false⟩] } } :=
  if_pos (decide_eq_true h)

theorem forwardToU_of_full {f : CanFrame} {s : State} (h : ¬ s.portU.queue.length < 32) :
    forwardToU f s = latch .forwardDrop none s.chain.s { s with counters := { s.counters with
      fwdDropDU := min 65535 (s.counters.fwdDropDU + 1) } } :=
  if_neg (by simpa [roomU] using h)

/-- The reply behind at most 31 frames (R170, R175). -/
theorem sendReply_of_room {code : Byte} {r : Request} {a : Answer} (h : a.state.portU.queue.length < 32) :
    sendReply code r a = pushU ⟨replyFrame code r a, false⟩ a.state :=
  if_pos (decide_eq_true h)

theorem sendReply_of_full {code : Byte} {r : Request} {a : Answer} (h : ¬ a.state.portU.queue.length < 32) :
    sendReply code r a = count .replyDropped 1 a.state :=
  if_neg (by simpa [roomU] using h)

/-! ## The forwarding decision -/

/-- An entry matches an arriving frame, bit by bit: the words of R164. -/
def EntryAgrees (p : Port) (id : Ident) (e : FwdEntry) : Prop :=
  e.inUse = true ∧ (e.ingress = .either ∨ (e.ingress = .u ∧ p = .u) ∨ (e.ingress = .d ∧ p = .d)) ∧
    ∀ k, e.mask.getLsbD k = true → id.getLsbD k = e.value.getLsbD k

theorem ingressIs_iff (p : Port) (i : Ingress) :
    ingressIs p i = true ↔ i = .either ∨ (i = .u ∧ p = .u) ∨ (i = .d ∧ p = .d) := by
  cases i <;> cases p <;> simp [ingressIs]

/-- Two words masked alike are equal when they agree at every bit of the mask. -/
theorem and_mask_eq_iff {w : Nat} (a b m : BitVec w) :
    a &&& m = b &&& m ↔ ∀ k, m.getLsbD k = true → a.getLsbD k = b.getLsbD k := by
  constructor
  · intro h k hk
    have hbit := congrArg (fun x => x.getLsbD k) h
    simpa [BitVec.getLsbD_and, hk] using hbit
  · intro h
    refine BitVec.eq_of_getLsbD_eq fun k _ => ?_
    rw [BitVec.getLsbD_and, BitVec.getLsbD_and]
    cases hk : m.getLsbD k with
    | false => simp
    | true => rw [h k hk]

theorem fwdMatches_iff (p : Port) (id : Ident) (e : FwdEntry) : fwdMatches p id e = true ↔ EntryAgrees p id e := by
  rw [fwdMatches, Bool.and_eq_true, Bool.and_eq_true, ingressIs_iff, beq_iff_eq, and_mask_eq_iff, and_assoc]
  rfl

/-- The matching entry of lowest index decides (R164). -/
theorem fwdAction_of_first {p : Port} {id : Ident} {s : State} {i : Nat} {e : FwdEntry} (he : s.fwd[i]? = some e)
    (hagrees : EntryAgrees p id e)
    (hfirst : ∀ j e', j < i → s.fwd[j]? = some e' → ¬ EntryAgrees p id e') : fwdAction p id s = e.action := by
  have hfind : s.fwd.find? (fwdMatches p id) = some e := by
    obtain ⟨hi, rfl⟩ := List.getElem?_eq_some_iff.1 he
    refine List.find?_eq_some_iff_getElem.2 ⟨(fwdMatches_iff p id _).2 hagrees, i, hi, rfl, fun j hj => ?_⟩
    have hj' : s.fwd[j]? = some s.fwd[j] := List.getElem?_eq_getElem (hj.trans hi)
    simpa [← fwdMatches_iff] using hfirst j _ hj hj'
  simp only [fwdAction, hfind]

/-- With no match P_FWD_DEFAULT decides (R164). -/
theorem fwdAction_of_none {p : Port} {id : Ident} {s : State} (h : ∀ e ∈ s.fwd, ¬ EntryAgrees p id e) :
    fwdAction p id s = s.params.fwdDefault := by
  have hfind : s.fwd.find? (fwdMatches p id) = none :=
    List.find?_eq_none.2 fun e he hmatch => h e he ((fwdMatches_iff p id e).1 hmatch)
  simp only [fwdAction, hfind]

theorem forwardByTable_eq (p : Port) (id : Ident) (f : CanFrame) (s : State) :
    forwardByTable p id f s = if fwdAction p id s = .pass then forwardFrom p f s else s := by
  unfold forwardByTable
  cases fwdAction p id s <;> rfl

theorem passUnclassified_eq (p : Port) (f : CanFrame) (s : State) :
    passUnclassified p f s = if s.params.fwdDefault = .pass then forwardFrom p f s else s := by
  unfold passUnclassified
  cases s.params.fwdDefault <;> rfl

/-! ## MANUAL_VALVE -/

theorem exec_manualValve (f : Arrival) (s : State) : exec (.manualValve f) s = .next (takeManual f s) := rfl

/-- A well-formed frame is judged by whether it is RAISE or LOWER with a demand above 0 (R89, R196). -/
theorem takeManual_of_wellFormed {f : Arrival} {dir d0 d1 : Byte} {rest : List Byte}
    (hdata : f.data = dir :: d0 :: d1 :: rest) (hdir : dir.toNat ≤ 2) (hdemand : word2 d0 d1 ≤ 10000) (s : State) :
    takeManual f s = gateManual (dir ≠ 0 && 0 < word2 d0 d1) (frameOf clsManualValve f) s := by
  have hparse : parseManual f.data = some (dir ≠ 0 && 0 < word2 d0 d1) := by
    rw [hdata]
    exact if_pos ⟨hdir, hdemand⟩
  simp only [takeManual, hparse]

/-- The override is the transition to MANUAL and then its event, at the chainage of before (R89). -/
theorem override_eq (s : State) : override s = latch .override none s.chain.s (released .manual s) := by
  have hchain : (releaseControl .manual s).chain = s.chain := by simp
  rw [override, latchHere, hchain, releaseControl_eq (by decide)]

theorem gateManual_of_idle {s : State} (h : s.ctl.state = .standby ∨ s.ctl.state = .manual) (n : Bool) (f : CanFrame) :
    gateManual n f s = forwardToD f s := by
  obtain h | h := h <;> simp only [gateManual, h]

theorem gateManual_of_automatic {s : State}
    (h : s.ctl.state = .auto ∨ s.ctl.state = .hold ∨ s.ctl.state = .suspended) (n : Bool) (f : CanFrame) :
    gateManual n f s = if n then forwardToD f (override s) else s := by
  obtain h | h | h := h <;> simp only [gateManual, h]

theorem gateManual_of_test {s : State} (h : s.ctl.state = .test) (n : Bool) (f : CanFrame) :
    gateManual n f s = if n then forwardToD f (endTest .override s) else s := by
  simp only [gateManual, h]

theorem gateManual_of_tripped {s : State} (h : s.ctl.state = .tripped) (n : Bool) (f : CanFrame) :
    gateManual n f s = s := by
  simp only [gateManual, h]

/-! ## FWD_WRITE -/

theorem inUseOfByte_eq (b : Byte) : inUseOfByte b = if b.toNat ≤ 1 then some (decide (b = 1)) else none := by
  unfold inUseOfByte
  split
  next h => obtain rfl : b = 0 := BitVec.eq_of_toNat_eq h; rfl
  next h => obtain rfl : b = 1 := BitVec.eq_of_toNat_eq h; rfl
  next h0 h1 => exact (if_neg fun h => (Nat.le_one_iff_eq_zero_or_eq_one.1 h).elim h0 h1).symm

theorem ingressOfByte_eq (b : Byte) : ingressOfByte b =
    if b.toNat ≤ 2 then some (if b = 0 then .u else if b = 1 then .d else .either) else none := by
  unfold ingressOfByte
  split
  next h => obtain rfl : b = 0 := BitVec.eq_of_toNat_eq h; rfl
  next h => obtain rfl : b = 1 := BitVec.eq_of_toNat_eq h; rfl
  next h => obtain rfl : b = 2 := BitVec.eq_of_toNat_eq h; rfl
  next h0 h1 h2 =>
    have hcases (h : b.toNat ≤ 2) : b.toNat = 0 ∨ b.toNat = 1 ∨ b.toNat = 2 := by omega
    exact (if_neg fun h => (hcases h).elim h0 (Or.elim · h1 h2)).symm

theorem actionOfByte_eq (b : Byte) : actionOfByte b =
    if b.toNat ≤ 1 then some (if b = 0 then .pass else .block) else none := by
  unfold actionOfByte
  split
  next h => obtain rfl : b = 0 := BitVec.eq_of_toNat_eq h; rfl
  next h => obtain rfl : b = 1 := BitVec.eq_of_toNat_eq h; rfl
  next h0 h1 => exact (if_neg fun h => (Nat.le_one_iff_eq_zero_or_eq_one.1 h).elim h0 h1).symm

/-- The entry of FWD_WRITE, present when every field is in its range (R165, log 15). -/
theorem fwdEntryOf_eq (use ing act : Byte) (v m : Nat) : fwdEntryOf use ing act v m =
    if use.toNat ≤ 1 ∧ ing.toNat ≤ 2 ∧ act.toNat ≤ 1 ∧ v < 2 ^ 29 ∧ m < 2 ^ 29 then
      some ⟨use = 1, if ing = 0 then .u else if ing = 1 then .d else .either,
        BitVec.ofNat 29 v, BitVec.ofNat 29 m, if act = 0 then .pass else .block⟩
    else none := by
  rw [fwdEntryOf, inUseOfByte_eq, ingressOfByte_eq, actionOfByte_eq]
  by_cases huse : use.toNat ≤ 1
  · by_cases hing : ing.toNat ≤ 2
    · by_cases hact : act.toNat ≤ 1
      · simp only [huse, hing, hact, if_true, true_and]
      · simp only [huse, hing, hact, if_true, if_false, false_and, and_false]
    · simp only [huse, hing, if_true, if_false, false_and, and_false]
  · simp only [huse, if_false, false_and]

/-- FWD_WRITE: the whole entry put at its index, or RANGE (R165). -/
theorem fwdWrite_eq (i use ing act v0 v1 v2 v3 m0 m1 m2 m3 : Byte) (s : State) :
    fwdWrite [i, use, ing, act, v0, v1, v2, v3, m0, m1, m2, m3] s =
      if i.toNat ≤ 23 ∧ use.toNat ≤ 1 ∧ ing.toNat ≤ 2 ∧ act.toNat ≤ 1 ∧ word4 v0 v1 v2 v3 < 2 ^ 29 ∧
          word4 m0 m1 m2 m3 < 2 ^ 29 then
        ⟨.ok, [], { s with fwd := s.fwd.set i.toNat ⟨use = 1, if ing = 0 then .u else if ing = 1 then .d else .either,
          BitVec.ofNat 29 (word4 v0 v1 v2 v3), BitVec.ofNat 29 (word4 m0 m1 m2 m3),
          if act = 0 then .pass else .block⟩ }⟩
      else refuse .range s := by
  rw [fwdWrite, fwdEntryOf_eq, ite_and (i.toNat ≤ 23)]
  by_cases hfields : use.toNat ≤ 1 ∧ ing.toNat ≤ 2 ∧ act.toNat ≤ 1 ∧ word4 v0 v1 v2 v3 < 2 ^ 29 ∧
      word4 m0 m1 m2 m3 < 2 ^ 29
  · rw [if_pos hfields, if_pos hfields, writeFwd]
    simp only [Nat.lt_succ_iff, done]
  · rw [if_neg hfields, if_neg hfields, ite_self, writeFwd]

/-! ## MASK_WRITE -/

/-- MASK_WRITE answers with the mask as it was sent (R188). -/
theorem maskWrite_eq (m0 m1 m2 m3 : Byte) (s : State) : maskWrite [m0, m1, m2, m3] s =
    if word4 m0 m1 m2 m3 < 2 ^ 28 then
      ⟨.ok, [m0, m1, m2, m3], { s with events := ⟨s.events.latches, BitVec.ofNat 28 (word4 m0 m1 m2 m3)⟩ }⟩
    else refuse .range s := by
  rw [maskWrite, writeMask, bytes4_word4]
  rfl

end Sys2Proof.Machine

namespace Sys2Proof.Scope

open Machine

/-- Settles O17: every one of these frames goes through `forwardByTable`, whose action is the first matching entry's, or
P_FWD_DEFAULT. -/
theorem forwardingLookup : Obligations.ForwardingLookup := by
  refine ⟨?_, fun p g s => congrArg Host.Outcome.next (passUnclassified_eq p g s)⟩
  intro p id format data s agrees f sentOn taken
  have decided {a : Action} (ha : fwdAction p id s = a) : exec (.forwardedFrame p id format data) s = .next (sentOn a) ∧
      taken a ∧ ∀ (dest : BitVec 6) (code : Byte) (r : Request), p = .u → id = identOf r.prio 0x40 dest r.src r.tag →
        format = r.format → data = code :: r.len :: r.rest → forwardRequest dest code r s = sentOn a := by
    have htable : forwardByTable p id f s = sentOn a := by rw [forwardByTable_eq, ha]
    refine ⟨congrArg Host.Outcome.next htable, ?_, ?_⟩
    · rintro k g - rfl rfl rfl
      exact htable
    · rintro dest code r rfl rfl rfl rfl
      exact htable
  exact ⟨fun i e he hagrees hfirst => decided (fwdAction_of_first he hagrees hfirst),
    fun hnone => decided (fwdAction_of_none hnone)⟩

/-- Settles O58: the gate by the control state, with the override and the test's ending as the statement spells them. -/
theorem manualValveGate : Obligations.ManualValveGate := by
  intro f s dir d0 d1 rest hdata hdir hdemand moves frame becomes
  have gated (t : State) (h : gateManual (dir ≠ 0 && 0 < word2 d0 d1) frame s = t) : becomes t := by
    have hgate := takeManual_of_wellFormed hdata hdir hdemand s
    exact (exec_manualValve f s).trans (congrArg Host.Outcome.next (hgate.trans h))
  have hmoves : (decide (dir ≠ 0) && decide (0 < word2 d0 d1)) = true ↔ moves := by simp [moves]
  refine ⟨fun hs => gated _ (gateManual_of_idle hs _ _), fun hs => ⟨fun hm => gated _ ?_, fun hm => gated _ ?_⟩,
    fun hs => ⟨fun hm => gated _ ?_, fun t back hm hprior hback => ⟨fun hphase => gated _ ?_,
      fun i m m' hphase => gated _ ?_⟩⟩, fun hs => gated _ (gateManual_of_tripped hs _ _)⟩
  · rw [gateManual_of_automatic hs, if_pos (hmoves.2 hm), override_eq]
    rfl
  · rw [gateManual_of_automatic hs, if_neg (mt hmoves.1 hm)]
  · rw [gateManual_of_test hs, if_neg (mt hmoves.1 hm)]
  · rw [gateManual_of_test hs, if_pos (hmoves.2 hm),
      endTest_eq (by decide) hprior hback hs (Or.inl ⟨hphase, rfl⟩)]
    rfl
  · rw [gateManual_of_test hs, if_pos (hmoves.2 hm),
      endTest_eq (by decide) hprior hback hs (Or.inr ⟨i, m, m', hphase, rfl⟩)]
    rfl

/-- Settles O60: each request by its rule, on a state whose table and mask are those before the request's forwarding. -/
theorem reportSettings : Obligations.ReportSettings := by
  refine ⟨fun r s i use ing act v0 v1 v2 v3 m0 m1 m2 m3 hbody => ?_, fun r s m0 m1 m2 m3 hbody => ?_,
    fun r s hbody => ⟨?_, ?_⟩⟩
  · have run : exec (.fwdWrite r) s = .next (answerRequest codeFwdWrite 12 r fwdWrite s) := rfl
    intro v m entry
    refine run.trans ((next_answerRequest 12 hbody rfl).trans (answered_ext ?_))
    rintro t ⟨-, -, -, -, -, -, -, -, -, -, -, -, -, -, -, hfwd, -⟩
    rw [fwdWrite_eq, hfwd]
  · have run : exec (.maskWrite r) s = .next (answerRequest codeMaskWrite 4 r maskWrite s) := rfl
    refine run.trans ((next_answerRequest 4 hbody rfl).trans (answered_ext fun t _ => ?_))
    exact maskWrite_eq m0 m1 m2 m3 t
  · have run : exec (.eventRead r) s = .next (answerRequest codeEventRead 0 r (fun _ => eventRead) s) := rfl
    refine run.trans ((next_answerRequest 0 hbody rfl).trans (answered_ext ?_))
    rintro t ⟨-, -, -, -, -, -, -, -, -, -, -, -, -, -, -, -, hmask, -⟩
    rw [← hmask]
    rfl
  · have run : exec (.countersClear r) s = .next (answerRequest codeCountersClear 0 r (fun _ => countersClear) s) := rfl
    exact run.trans (next_answerRequest 0 hbody rfl)

/-- Settles O1: `step` takes the front of the queue off and hands it to `exec` (log 25). -/
theorem stepRunsFrontCommand : Obligations.StepRunsFrontCommand := fun _ _ _ => rfl

/-- Settles O15: the reply by the room in the Port U queue; its frame is `replyFrame`, written out. -/
theorem replyJoinsQueue : Obligations.ReplyJoinsQueue := by
  intro code r a body layout reply
  split
  next hroom => exact sendReply_of_room hroom
  next hfull => exact sendReply_of_full hfull

/-- Settles O16: each direction by the room in its queue. -/
theorem forwardedFrameJoinsQueue : Obligations.ForwardedFrameJoinsQueue := by
  intro f s
  constructor
  · split
    next hroom => exact forwardToD_of_room hroom
    next hfull => exact forwardToD_of_full hfull
  · split
    next hroom => exact forwardToU_of_room hroom
    next hfull => exact forwardToU_of_full hfull

end Sys2Proof.Scope
end

section
/-! The parameters' ranges (R176 to R178, R199): PARAM_WRITE stores a value of its range that leaves P_UMIN at or below
P_UMAX, the resets give the defaults, and no other command writes a parameter. -/

namespace Sys2Proof.Machine

/-! ## A stored value -/

/-- The value that a write of a numeric parameter stores, adjusted or not (R177 steps 4 and 5). -/
theorem stores_adjustNumeric {n lo hi : Nat} (hk : paramKind n = some (.numeric lo hi)) (v : Int) (p : Params) :
    Stores n (adjustNumeric n lo hi v p) v p := by
  have hle := range_of_numeric hk
  refine .inr ⟨lo, hi, hk, ?_⟩
  simp only [adjustNumeric, clampInt_eq (show (lo : Int) ≤ hi by omega)]
  split_ifs <;> omega

/-- PARAM_WRITE leaves the state as it is, or carries out a value it stores (R177). -/
theorem paramWrite_stores (body : List Byte) (s : State) : (paramWrite body s).state = s ∨
    ∃ n w v, Stores n w v s.params ∧ (paramWrite body s).state = carryWrite n w s := by
  unfold paramWrite
  split <;> [skip; exact .inl rfl]
  unfold writeParam
  dsimp only
  split <;> [exact .inl rfl; skip]
  rename_i kind hkind
  split <;> [exact .inl rfl; skip]
  cases kind with
  | enumerated k =>
    dsimp only
    split <;> [skip; exact .inl rfl]
    rename_i hv
    exact .inr ⟨_, _, _, .inl ⟨k, hkind, hv.2, Int.toNat_of_nonneg hv.1⟩, rfl⟩
  | numeric lo hi => exact .inr ⟨_, _, _, stores_adjustNumeric hkind _ _, rfl⟩

/-- A stored value of a numeric parameter lies in its range. P_UMIN may be lowered to P_UMAX, and its lowest value is 0;
P_UMAX may be raised to P_UMIN, whose highest value is below its own (R177 step 5, R199). -/
theorem range_of_stores {n w lo hi : Nat} {v : Int} {p : Params} (hp : ParamsInRange p) (hw : Stores n w v p)
    (hk : paramKind n = some (.numeric lo hi)) : lo ≤ w ∧ w ≤ hi := by
  obtain ⟨k, hkind, -⟩ | ⟨lo', hi', hkind, hw⟩ := hw
  · simp [hkind] at hk
  obtain ⟨rfl, rfl⟩ : lo' = lo ∧ hi' = hi := by simpa [hkind] using hk
  have hle := range_of_numeric hk
  by_cases hmin : n = 22
  · subst hmin
    cases hk
    dsimp only at hw
    omega
  by_cases hmax : n = 23
  · subst hmax
    cases hk
    have humin := hp.range 22 0 5000 p.umin rfl rfl
    dsimp only at hw
    omega
  simp only [hmin, hmax, if_false] at hw
  omega

/-- P_UMIN is not written above P_UMAX, nor P_UMAX below P_UMIN (R177 step 5). -/
theorem order_of_stores {n w : Nat} {v : Int} {p : Params} (hp : ParamsInRange p) (hw : Stores n w v p) :
    (storeParam n w p).umin ≤ (storeParam n w p).umax := by
  by_cases hmin : n = 22
  · subst hmin
    obtain ⟨k, hk, -⟩ | ⟨lo, hi, -, hw⟩ := hw
    · cases hk
    show w ≤ p.umax
    simp only [if_true] at hw
    omega
  by_cases hmax : n = 23
  · subst hmax
    obtain ⟨k, hk, -⟩ | ⟨lo, hi, -, hw⟩ := hw
    · cases hk
    show p.umin ≤ w
    simp only [if_neg hmin, if_true] at hw
    omega
  have humin : some (storeParam n w p).umin = some p.umin :=
    (readParam_storeParam (storable_of_stores hw) 22 p).trans (if_neg (Ne.symm hmin))
  rw [Option.some.inj humin, umax_storeParam hmax]
  exact hp.order

/-- Storing a value keeps every range and the order of P_UMIN and P_UMAX. -/
theorem paramsInRange_storeParam {n w : Nat} {v : Int} {p : Params} (hp : ParamsInRange p) (hw : Stores n w v p) :
    ParamsInRange (storeParam n w p) := by
  refine ⟨fun id lo hi x hk hx => ?_, order_of_stores hp hw⟩
  rw [readParam_storeParam (storable_of_stores hw)] at hx
  split at hx
  next hid =>
    obtain rfl := Option.some.inj hx
    exact range_of_stores hp hw (hid ▸ hk)
  next => exact hp.range id lo hi x hk hx

/-! ## What leaves the parameters alone -/

theorem params_acceptLine (l : Line) (s : State) : (acceptLine l s).params = s.params := by
  unfold acceptLine
  cases l with
  | odo => dsimp only; split <;> simp
  | dir | dig => rfl
  | stop => dsimp only; split <;> simp

theorem params_filterExpiry (l : Line) (s : State) : (filterExpiry l s).params = s.params := by
  unfold filterExpiry
  split <;> [exact params_acceptLine l s; rfl]

theorem params_lineLevelChange (l : Line) (high : Bool) (s : State) : (lineLevelChange l high s).params = s.params := by
  have start (t : State) : (startCandidate l t).params = t.params := by
    unfold startCandidate
    dsimp only
    split <;> [split; rfl] <;> [exact params_acceptLine l _; rfl]
  unfold lineLevelChange
  dsimp only
  split <;> [rfl; exact start _]

theorem params_expireAll (s : State) : (expireAll s).params = s.params := by
  rw [expireAll_eq]
  split <;> simp [expireBeams]

/-- No effect at the write stores a further parameter (R178). -/
theorem params_paramEffect (id : Nat) (old : Params) (s : State) : (paramEffect id old s).params = s.params := by
  obtain ⟨hdepth, htravel, hsource, -, htick⟩ := chain_modeEffects s
  unfold paramEffect
  split
  case h_2 => exact params_expireAll s
  case h_4 | h_5 | h_6 | h_7 => exact params_filterExpiry _ s
  case h_8 => rfl
  case h_9 => exact htick
  case h_10 => exact (hsource _).2
  case h_12 => exact (hdepth _).2
  case h_13 => exact (htravel _).2
  all_goals simp

theorem params_openRunRequest (body : List Byte) (s : State) : (openRunRequest body s).state.params = s.params := by
  obtain hs | ⟨start, g, discard, -, -, -, hs⟩ := openRunRequest_state body s <;> rw [hs]
  simp [openRun]

/-- A run clear keeps the parameters (R187). -/
theorem params_clearRun (s : State) : (clearRun s).params = s.params := by
  unfold clearRun clearBlocks clearControl
  dsimp only
  split <;> simp

/-! ## The step -/

/-- The invariant of the parameters, of the state that holds them. -/
def ParamsSound (s : State) : Prop := ParamsInRange s.params

theorem paramsSound_of_params {s t : State} (h : ParamsSound s) (hp : t.params = s.params) : ParamsSound t := by
  rwa [ParamsSound, hp]

theorem paramsSound_of_chainage {s t : State} (h : ParamsSound s) (hc : chainage t = chainage s) : ParamsSound t :=
  paramsSound_of_params h (congrArg Prod.snd hc)

theorem paramsSound_besideQueues : BesideQueues ParamsSound := by
  rintro s t ⟨-, -, hparams, -⟩ h
  exact paramsSound_of_params h hparams

theorem paramsSound_paramWrite {s : State} (body : List Byte) (h : ParamsSound s) :
    ParamsSound (paramWrite body s).state := by
  obtain hs | ⟨n, w, v, hw, hs⟩ := paramWrite_stores body s <;> rw [hs] <;> [exact h; skip]
  have stored : ParamsSound { s with params := storeParam n w s.params } := paramsInRange_storeParam h hw
  exact paramsSound_of_params stored (params_paramEffect n s.params _)

theorem paramsSound_masterReset (s : State) : ParamsSound (masterReset s) := by
  rw [masterReset_eq]
  exact paramsInRange_defaultParams

theorem paramsSound_departU {s : State} (h : ParamsSound s) : ParamsSound (departU s) := by
  unfold departU afterDeparture
  split <;> [exact h; split] <;> [exact paramsSound_masterReset _; exact paramsSound_of_params h (by simp)]

/-- A request keeps the parameters in range where its rule writes none. -/
theorem paramsSound_request {code : Byte} {n : Nat} {r : Request} {act : List Byte → State → Answer} {s : State}
    (h : ParamsSound s) (hact : ∀ body t, (act body t).state.params = t.params) :
    ParamsSound (answerRequest code n r act s) :=
  answerRequest_keeps paramsSound_besideQueues (fun body _ ht => paramsSound_of_params ht (hact body _)) h

/-- A request keeps the parameters in range where its rule leaves them and the chainage unit alone. -/
theorem paramsSound_quietRequest {code : Byte} {n : Nat} {r : Request} {act : List Byte → State → Answer} {s : State}
    (h : ParamsSound s) (hact : ∀ body t, chainage (act body t).state = chainage t) :
    ParamsSound (answerRequest code n r act s) :=
  paramsSound_request h fun body t => congrArg Prod.snd (hact body t)

theorem paramsSound_takeLoadEntry {s : State} (r : Request) (h : ParamsSound s) : ParamsSound (takeLoadEntry r s) := by
  unfold takeLoadEntry
  split
  · exact refusal_keeps paramsSound_besideQueues codeLoadEntry r .sequence h
  · exact paramsSound_quietRequest h (chainage_loadEntry _)

/-- Only PARAM_WRITE, power-on and the master reset write a parameter. -/
theorem paramsSound_exec {s : State} (c : Instr) (h : ParamsSound s) : Yields ParamsSound (exec c s) := by
  have beside := paramsSound_besideQueues
  cases c with
  | powerOn straps =>
    show ParamsSound (powerOn straps s)
    rw [powerOn_eq]
    exact paramsInRange_defaultParams
  | strike f => exact paramsSound_of_chainage h (chainage_takeStrike f s)
  | tilt f => exact paramsSound_of_chainage h (chainage_takeTiltFrame f s)
  | sync f => exact paramsSound_of_params (t := takeSync (forwardTaken .d clsSync f s)) h (by simp)
  | manualValve f => exact paramsSound_of_chainage h (chainage_takeManual f s)
  | forwardedFrame p id format data => exact paramsSound_of_params (t := forwardByTable p id _ s) h (by simp)
  | unclassifiedFrame p f => exact paramsSound_of_chainage h (chainage_passUnclassified p f s)
  | mgmtReqShortHeader prio src tag format byte => exact paramsSound_of_params (t := dropMalformed s) h (by simp)
  | unknownRequest code r => exact refusal_keeps beside code r .unknown h
  | identify broadcast r => exact identify_keeps beside broadcast r h
  | snapshot r => exact paramsSound_quietRequest h fun _ => chainage_noteTarget
  | reset r => exact takeReset_keeps beside paramsSound_masterReset r h
  | clearRun r => exact paramsSound_request h fun _ => params_clearRun
  | paramRead r => exact paramsSound_quietRequest h chainage_paramRead
  | paramWrite r => exact answerRequest_keeps beside (fun body _ ht => paramsSound_paramWrite body ht) h
  | loadBegin r => exact paramsSound_quietRequest h chainage_loadBegin
  | loadEntry r => exact paramsSound_takeLoadEntry r h
  | loadCommit r => exact paramsSound_quietRequest h chainage_loadCommit
  | loadCancel r => exact paramsSound_quietRequest h chainage_loadCancel
  | readEntry r => exact paramsSound_quietRequest h chainage_readEntry
  | openRun r => exact paramsSound_request h params_openRunRequest
  | closeRun r => exact paramsSound_quietRequest h fun _ => chainage_closeRun
  | bench r => exact paramsSound_quietRequest h chainage_bench
  | setDepth r => exact paramsSound_quietRequest h chainage_setDepthRequest
  | setModeAuto r => exact paramsSound_quietRequest h chainage_takeModeAuto
  | setModeManual r => exact paramsSound_quietRequest h chainage_takeModeManual
  | resume r => exact paramsSound_quietRequest h fun _ => chainage_resume
  | clearTrip r => exact paramsSound_quietRequest h fun _ => chainage_clearTrip
  | handover r => exact paramsSound_quietRequest h chainage_handover
  | adopt r => exact paramsSound_quietRequest h chainage_adopt
  | testStart r => exact paramsSound_quietRequest h chainage_testStart
  | testAbort r => exact paramsSound_quietRequest h fun _ => chainage_testAbort
  | testResult r => exact paramsSound_quietRequest h fun _ _ => rfl
  | testApply r => exact paramsSound_quietRequest h fun _ => chainage_testApply
  | fwdWrite r => exact paramsSound_quietRequest h chainage_fwdWrite
  | fwdRead r => exact paramsSound_quietRequest h chainage_fwdRead
  | traceRead r => exact paramsSound_quietRequest h fun _ => chainage_traceRead
  | traceMark r => exact paramsSound_quietRequest h fun _ t => chainage_burst t _
  | traceUnmark r => exact paramsSound_quietRequest h fun _ t => chainage_burst t _
  | traceRewind r => exact paramsSound_quietRequest h fun _ => chainage_traceRewind
  | traceGate r => exact paramsSound_quietRequest h chainage_traceGate
  | eventRead r => exact paramsSound_quietRequest h fun _ _ => rfl
  | maskWrite r => exact paramsSound_quietRequest h chainage_maskWrite
  | countersRead r => exact paramsSound_quietRequest h fun _ _ => rfl
  | countersClear r => exact paramsSound_quietRequest h fun _ _ => rfl
  | portUFrameDeparture => exact paramsSound_departU h
  | arbiterTakesFrame => exact h
  | lineLevelChange l high => exact paramsSound_of_params h (params_lineLevelChange l high s)
  | acceptedOdoEdge => exact paramsSound_of_params h (params_filterExpiry .odo s)
  | acceptedDirChange => exact paramsSound_of_params h (params_filterExpiry .dir s)
  | acceptedDigChange => exact paramsSound_of_params h (params_filterExpiry .dig s)
  | stopAcceptedActive =>
    show ParamsSound (if s.lines.stop.active then s else filterExpiry .stop s)
    split <;> [exact h; exact paramsSound_of_params h (params_filterExpiry .stop s)]
  | stopRelease =>
    show ParamsSound (if s.lines.stop.active then filterExpiry .stop s else s)
    split <;> [exact paramsSound_of_params h (params_filterExpiry .stop s); exact h]
  | strikeTimeout c => exact paramsSound_of_params (t := strikeTimeout c s) h (by simp)
  | referenceTimeout => exact paramsSound_of_params (t := referenceTimeout s) h (by simp)
  | fadingTimeout => exact paramsSound_of_params (t := fadingTimeout s) h (by simp)
  | tiltExpiry => exact paramsSound_of_params (t := tiltExpiry s) h (by simp)
  | outputTick => exact paramsSound_of_params (t := outputTick s) h (by simp)
  | syncTimeout => exact paramsSound_of_params (t := syncTimeout s) h (by simp)
  | holdDistanceExpiry =>
    show ParamsSound (if holdDistanceDue s then filterExpiry .odo s else s)
    split <;> [exact paramsSound_of_params h (params_filterExpiry .odo s); exact h]
  | dwellClearMoment => exact paramsSound_of_params (t := firstStep s) h (by simp)
  | stepTimerExpiry => exact paramsSound_of_params (t := stepTimerExpiry s) h (by simp)
  | noBeamTimeout => exact paramsSound_of_params (t := noBeamTimeout s) h (by simp)

end Sys2Proof.Machine

namespace Sys2Proof.Scope

open Machine

/-- Settles O6: every command keeps the ranges and the order, and neither the queue nor the clock touches them. -/
theorem stepKeepsParamRanges : Obligations.StepKeepsParamRanges := fun _ _ h hst =>
  step_keeps (P := ParamsSound) (fun c _ hs => paramsSound_exec c hs) (fun _ _ _ _ hs => hs) h hst

end Sys2Proof.Scope
end

section
/-! The latching of events (R188 to R190, R193, R194). -/

namespace Sys2Proof.Machine

/-! ## The latches -/

/-- The bit of an event's number stands in its latch and in no other. -/
theorem getLsbD_eventBit {i : Nat} (hi : i < 28) (n : Nat) :
    ((1 <<< n : Nat) : BitVec 28).getLsbD i = decide (n = i) := by
  rw [BitVec.natCast_eq_ofNat, BitVec.getLsbD_ofNat, Nat.one_shiftLeft, Nat.testBit_two_pow, decide_eq_true hi,
    Bool.true_and]

theorem eventNo_eq_noticeDrop_iff (e : Event) : eventNo e = 27 ↔ e = .noticeDrop := by
  cases e <;> decide

theorem noticeDrop_latched_setLatch_iff (e : Event) (s : State) :
    latched .noticeDrop (setLatch e s) = true ↔ e = .noticeDrop ∨ s.events.latches.getLsbD 27 = true := by
  show (s.events.latches ||| ((1 <<< eventNo e : Nat) : BitVec 28)).getLsbD 27 = true ↔ _
  rw [BitVec.getLsbD_or, getLsbD_eventBit (by decide), Bool.or_eq_true, decide_eq_true_iff, eventNo_eq_noticeDrop_iff,
    or_comm]

/-- Setting a latch that is set already changes nothing. -/
theorem setLatch_of_latched {e : Event} {s : State} (h : latched e s = true) : setLatch e s = s := by
  have hor : s.events.latches ||| ((1 <<< eventNo e : Nat) : BitVec 28) = s.events.latches := by
    refine BitVec.eq_of_getLsbD_eq fun i hi => ?_
    rw [BitVec.getLsbD_or, getLsbD_eventBit hi]
    by_cases hie : eventNo e = i
    · have hset : s.events.latches.getLsbD i = true := hie ▸ h
      rw [hset, Bool.true_or]
    · rw [decide_eq_false hie, Bool.or_false]
  simp only [setLatch, hor]

/-! ## The notice -/

/-- The NOTICE frame, its 11 bytes padded to 12 (R189, R193, R194). -/
theorem noticeFrame_eq (e : Event) (b : Option BeamCode) (c : Nat) (s : State) : noticeFrame e b c s =
    ⟨.ext (identOf 4 0x42 63 s.node 0), .data .fd,
      [byte (eventNo e), flagByte b.isSome, (b.map beamByte).getD 0] ++ bytes4 c ++ bytes4 s.now.ms.toNat ++ [0]⟩ := by
  have hflag : presence [b.isSome] = flagByte b.isSome := by cases b <;> rfl
  rw [noticeFrame, hflag]
  rfl

/-- A dropped notice counts once with the cascade masked or latched already, else twice (R189). -/
theorem dropNotice_eq (s : State) : dropNotice s =
    setLatch .noticeDrop (count .noticeDropped
      (if latched .noticeDrop s = true ∨ masked .noticeDrop s = true then 1 else 2) s) := by
  have hl : latched .noticeDrop (count .noticeDropped 1 s) = latched .noticeDrop s := rfl
  have hm : masked .noticeDrop (count .noticeDropped 1 s) = masked .noticeDrop s := rfl
  unfold dropNotice
  dsimp only
  rw [hl, hm]
  by_cases hlatched : latched .noticeDrop s = true
  · rw [if_pos hlatched, if_pos (.inl hlatched), setLatch_of_latched (hl.trans hlatched)]
  · rw [if_neg hlatched]
    by_cases hmasked : masked .noticeDrop s = true
    · rw [if_pos hmasked, if_pos (.inr hmasked)]
    · rw [if_neg hmasked, if_neg (by tauto)]
      have htwice : min 65535 (min 65535 (s.counters.noticeDropped + 1) + 1) =
          min 65535 (s.counters.noticeDropped + 2) := by omega
      simp [count, setLatch, counterOf, putCounter, htwice]

/-! ## The four cases of `latch` -/

theorem latch_of_latched {e : Event} {s : State} (h : latched e s = true) (b : Option BeamCode) (c : Nat) :
    latch e b c s = s := if_pos h

theorem latch_of_masked {e : Event} {s : State} (h : latched e s = false) (hm : masked e s = true)
    (b : Option BeamCode) (c : Nat) : latch e b c s = setLatch e s := by
  simp [latch, h, hm]

theorem latch_of_room {e : Event} {s : State} (h : latched e s = false) (hm : masked e s = false)
    (hq : s.portU.queue.length < 32) (b : Option BeamCode) (c : Nat) :
    latch e b c s = pushU ⟨noticeFrame e b c s, false⟩ (setLatch e s) := by
  simp [latch, h, hm, roomU, hq]

theorem latch_of_full {e : Event} {s : State} (h : latched e s = false) (hm : masked e s = false)
    (hq : 32 ≤ s.portU.queue.length) (b : Option BeamCode) (c : Nat) :
    latch e b c s = dropNotice (setLatch e s) := by
  simp [latch, h, hm, roomU, not_lt.2 hq]

end Sys2Proof.Machine

namespace Sys2Proof.Scope

open Machine

/-- Settles O14: the four cases of `latch`, the last one by what the dropped notice counts. -/
theorem eventLatching : Obligations.EventLatching := by
  intro e b c s n set notice
  refine ⟨fun h => latch_of_latched h b c, fun h hm => latch_of_masked h hm b c, fun h hm hq => ?_,
    fun h hm hq => ?_⟩
  · rw [latch_of_room h hm hq, noticeFrame_eq]
    rfl
  · have hcascade : latched .noticeDrop (setLatch e s) = true ∨ masked .noticeDrop (setLatch e s) = true ↔
        e = .noticeDrop ∨ s.events.latches.getLsbD 27 = true ∨ s.events.mask.getLsbD 27 = true := by
      rw [noticeDrop_latched_setLatch_iff, or_assoc]
      rfl
    rw [latch_of_full h hm hq, dropNotice_eq, if_congr hcascade rfl rfl]
    rfl

end Sys2Proof.Scope
end

section
/-! The requests refused by their form (R175, R180, R194, R198), and IDENTIFY (R161, R185). -/

namespace Sys2Proof.Machine

/-! ## Wrong lengths -/

/-- RESET of a wrong length makes no reset (R175, R186). -/
theorem takeReset_of_wrong {r : Request} (h : r.len.toNat ≠ 0 ∨ r.rest.length < 0) (s : State) :
    takeReset r s = sendReply codeReset r (refuse .malformed (forwardRequest s.node codeReset r s)) := by
  simp [takeReset, bodyOf_of_wrong h]

/-- Every request of a fixed body length is judged by its length first (R175, R198). -/
theorem exec_fixedRequest_of_wrong {c : Instr} {code : Byte} {n : Nat} {r : Request}
    (hc : fixedRequest c = some (code, n, r)) (h : r.len.toNat ≠ n ∨ r.rest.length < n) (s : State) :
    exec c s = answered code r s (refuse .malformed) := by
  cases c <;> cases hc
  case reset => exact congrArg Host.Outcome.next (takeReset_of_wrong h s)
  all_goals exact congrArg Host.Outcome.next (answerRequest_of_wrong h)

theorem takeLoadEntry_of_none {s : State} (h : s.store.session = none) (r : Request) : takeLoadEntry r s =
    sendReply codeLoadEntry r (refuse .sequence (forwardRequest s.node codeLoadEntry r s)) := by
  simp only [takeLoadEntry, h]

theorem takeLoadEntry_of_some {s : State} {sn : Session} (h : s.store.session = some sn) (r : Request) :
    takeLoadEntry r s = answerRequest codeLoadEntry (entryLength sn.kind) r (loadEntry sn) s := by
  simp only [takeLoadEntry, h]

/-! ## IDENTIFY -/

theorem identifyBody_eq (s : State) : identifyBody s = [0x5B, 0x01, 0x9A, 0x01, s.node.setWidth 8] := rfl

theorem identify_of_carries {r : Request} (h : Carries r []) (broadcast : Bool) (s : State) :
    identify broadcast r s = sendReply codeIdentify r (done [0x5B, 0x01, 0x9A, 0x01, s.node.setWidth 8]
      (forwardRequest (if broadcast then broadcastNode else s.node) codeIdentify r s)) := by
  simp [identify, bodyOf_of_carries (n := 0) h rfl, identifyBody_eq]

theorem identify_of_wrong {r : Request} (h : r.len ≠ 0) (broadcast : Bool) (s : State) :
    identify broadcast r s = sendReply codeIdentify r (refuse .malformed
      (forwardRequest (if broadcast then broadcastNode else s.node) codeIdentify r s)) := by
  have hlen : r.len.toNat ≠ 0 := fun h0 => h (BitVec.eq_of_toNat_eq h0)
  simp [identify, bodyOf_of_wrong (n := 0) (.inl hlen)]

end Sys2Proof.Machine

namespace Sys2Proof.Scope

open Machine

/-- Settles O19: each refusal is made on the state that the forwarding of the request's own frame leaves. -/
theorem requestsRefusedByForm : Obligations.RequestsRefusedByForm := by
  refine ⟨fun _ _ _ => rfl, fun _ _ _ _ s hc h => exec_fixedRequest_of_wrong hc h s, fun r s h => ?_,
    fun r s sn h hw => ?_⟩
  · exact congrArg Host.Outcome.next (takeLoadEntry_of_none h r)
  · exact congrArg Host.Outcome.next ((takeLoadEntry_of_some h r).trans (answerRequest_of_wrong hw))

/-- Settles O20: IDENTIFY reads nothing of the control state, and the node number is not the forwarding's to change. -/
theorem identifyRequest : Obligations.IdentifyRequest := fun broadcast _ s =>
  ⟨fun h => congrArg Host.Outcome.next (identify_of_carries h broadcast s),
    fun h => congrArg Host.Outcome.next (identify_of_wrong h broadcast s)⟩

end Sys2Proof.Scope
end
